-- ==== Sys2Proof/Word.lean ====
section
/-!
DEFINITION. The plain types everything else is built from: bytes, numbers of stations, voices and layers, the pair
of things held per player, and a table of fixed length (a list with the proof of its length, written once here).
-/
namespace Sys2Proof

/-- A message, slot or image byte. -/
abbrev Byte := BitVec 8

/-- A station address, 0 to 3. -/
abbrev Station := Fin 4

/-- A voice number, 0 to 31. -/
abbrev VoiceNo := Fin 32

/-- A layer number within a layer set, 0 to 3. -/
abbrev LayerNo := Fin 4

/-- A fingering table index, 0 to 191. -/
abbrev EntryNo := Fin 192

/-- A raw sample of the sensor converter, 0 to 4095 (R1). -/
abbrev Sample := BitVec 12

/-- The two players, numbered 1 and 2 in the text. -/
inductive Player where
  | p1
  | p2
deriving DecidableEq, Repr

/-- The other player: Q of R93. -/
def Player.other : Player → Player
  | .p1 => .p2
  | .p2 => .p1

/-- One thing for each player. -/
structure Pair (α : Type) where
  p1 : α
  p2 : α
deriving DecidableEq, Repr

/-- The same thing for both players. -/
def Pair.both {α : Type} (a : α) : Pair α := ⟨a, a⟩

/-- The thing of one player. -/
def Pair.get {α : Type} (x : Pair α) : Player → α
  | .p1 => x.p1
  | .p2 => x.p2

/-- Replaces the thing of one player. -/
def Pair.set {α : Type} (x : Pair α) (p : Player) (a : α) : Pair α :=
  match p with
  | .p1 => { x with p1 := a }
  | .p2 => { x with p2 := a }

/-- A table of `n` things. -/
structure Tab (α : Type) (n : Nat) where
  list : List α
  len : list.length = n
deriving DecidableEq, Repr

/-- The table holding one thing at every place. -/
def Tab.const {α : Type} (n : Nat) (a : α) : Tab α n := ⟨List.replicate n a, List.length_replicate⟩

/-- The table whose place `i` holds `f i`. -/
def Tab.ofFn {α : Type} {n : Nat} (f : Fin n → α) : Tab α n := ⟨List.ofFn f, List.length_ofFn⟩

/-- The thing at one place. -/
def Tab.get {α : Type} {n : Nat} (t : Tab α n) (i : Fin n) : α := t.list[i.val]'(by rw [t.len]; exact i.isLt)

/-- Replaces the thing at one place. -/
def Tab.set {α : Type} {n : Nat} (t : Tab α n) (i : Fin n) (a : α) : Tab α n :=
  ⟨t.list.set i.val a, by rw [List.length_set, t.len]⟩

/-- Applies a function at every place. -/
def Tab.map {α β : Type} {n : Nat} (f : α → β) (t : Tab α n) : Tab β n :=
  ⟨t.list.map f, by rw [List.length_map, t.len]⟩

/-- Every number below `n`, in rising order. -/
def upTo (n : Nat) : List (Fin n) := List.finRange n

end Sys2Proof
end

