-- ==== Sys2Proof/Syntax.lean ====
section
/-!
DEFINITION. The commands of the part, one constructor for each row of the opcode table, and the requests a station
may send (R148). Request fields are held as sent, before any check or clamp.
-/
namespace Sys2Proof

/-- The two transducers of a mouthpiece (chapter 1). -/
inductive Transducer where
  | breath
  | lip
deriving DecidableEq, Repr

/-- A sensor input at its conversion (R177). -/
inductive SensorInput where
  /-- Driven to a voltage, in microvolts above GND. -/
  | voltage (microvolts : Int)
  /-- Left unconnected, held to GND by the pull-down. -/
  | unconnected
deriving DecidableEq, Repr

/-- The two sensor inputs of a player's mouthpiece: BR1 and LP1, or BR2 and LP2 (chapters 1 and 11). -/
structure Mouthpiece where
  breath : SensorInput
  lip : SensorInput
deriving DecidableEq, Repr

/-- The lanes of an upstream slot processed in full, which need no order among themselves (R138). -/
inductive SlotLane where
  | echo
  | giveBack
  | edit
  | message
deriving DecidableEq, Repr

/-- What the image memory answers to a read (R167). -/
inductive MemAnswer where
  /-- The bytes that the part's own erase and program commands left in it. -/
  | stored
  /-- These bytes; places past their end read FFh, as the pulled-up line does. -/
  | bytes (l : List Byte)
deriving DecidableEq, Repr

/-- The five fields of a fingering table entry as sent (R148). -/
structure RawEntry where
  valid : Byte
  chart : Byte
  care : BitVec 24
  pattern : BitVec 24
  pitch : Byte
deriving DecidableEq, Repr

/-- The fields of a layer as sent (R148). -/
structure RawLayer where
  present : Byte
  interval : Byte
  scale : BitVec 16
  curve : Byte
  program : Byte
  low : Byte
  high : Byte
deriving DecidableEq, Repr

/-- The 20 setting bytes of a player as sent (R148 note 1). -/
structure RawSettings where
  enabled : Byte
  captureOnEnable : Byte
  chart : Byte
  layerSet : Byte
  transpose : Byte
  settleMs : Byte
  gain : BitVec 16
  onThreshold : BitVec 16
  offThreshold : BitVec 16
  k : Byte
  deadBand : Byte
  mode : Byte
  bendDepth : Byte
  deadzone : BitVec 16
  drift : Byte
  reserve : Byte
deriving DecidableEq, Repr

/-- The calibration values that the longer WRITE-PLAYER carries (R155). -/
structure RawCalibration where
  offset : BitVec 16
  centre : BitVec 16
deriving DecidableEq, Repr

/-- The nine points of a curve as sent (R148). -/
abbrev RawCurve := Tab (BitVec 16) 9

/-- A request of the catalogue with its fields as sent (R148). -/
inductive Request where
  | readStatus
  | readCounters
  | clearCounters
  | readEntry (entry : Byte)
  | writeEntry (entry : Byte) (fields : RawEntry)
  | clearEntry (entry : Byte)
  | readChart (chart : Byte)
  | writeChart (chart fallback base : Byte)
  | resolve (chart : Byte) (word : BitVec 24)
  | readLayer (set layer : Byte)
  | writeLayer (set layer : Byte) (fields : RawLayer)
  | readCurve (curve : Byte)
  | writeCurve (curve : Byte) (points : RawCurve)
  | readPlayer (player : Byte)
  | writePlayer (player : Byte) (fields : RawSettings) (calibration : Option RawCalibration)
  | zeroCapture (player : Byte)
  | readPart
  | writePart (renderer steps : Byte)
  | readRoute (station : Byte)
  | writeRoute (station mask : Byte)
  | readVoice (voice : Byte)
  | readPool
  | readAttention
  | takeAttention
  | clearAttention (kinds : BitVec 16)
  | maskAttention (kinds : BitVec 16)
  | unmaskAttention (kinds : BitVec 16)
  | signal (station : Byte)
  | storeImage
  | loadImage
  | restart
deriving DecidableEq, Repr

/-- The commands: one constructor for each row of the opcode table. A request row carries the requesting station. -/
inductive Instr where
  -- sensing (chapter 1)
  /-- `vref` is the converter reference in microvolts, one for the four inputs (R177). `roundUp` says for each player's
  breath and lip conversion to which side it rounds, which R177 leaves open (entry 1). -/
  | sweepStart (vref : Nat) (mouthpiece1 mouthpiece2 : Mouthpiece) (roundUp : Pair (Bool × Bool))
  | sweepCompletion
  | faultEntry (p : Player) (t : Transducer)
  | faultExit (p : Player) (t : Transducer)
  | warmupEnd (p : Player)
  | captureCompletion (p : Player)
  | driftStep (p : Player)
  -- keywork and resolution (chapters 2 and 4); `holdFirst` orders a player's two hand-ons of one scan
  | scanStart (matrix1 matrix2 : BitVec 32)
  | scanCompletion (holdFirst1 holdFirst2 : Bool)
  | settleExpiry (p : Player)
  -- voice pool (chapter 6)
  | reclaim (v : VoiceNo)
  -- link (chapter 8); `drives` is what each station that drives the line puts on it
  | frameSync
  | downstreamSlot (st : Station)
  | upstreamSlot (st : Station) (drives : List (BitVec 48)) (order : List SlotLane)
  | stationLost (st : Station)
  -- requests (chapter 9)
  | readStatus (st : Station)
  | readCounters (st : Station)
  | clearCounters (st : Station)
  | readEntry (st : Station) (entry : Byte)
  | writeEntry (st : Station) (entry : Byte) (fields : RawEntry)
  | clearEntry (st : Station) (entry : Byte)
  | readChart (st : Station) (chart : Byte)
  | writeChart (st : Station) (chart fallback base : Byte)
  | resolve (st : Station) (chart : Byte) (word : BitVec 24)
  | readLayer (st : Station) (set layer : Byte)
  | writeLayer (st : Station) (set layer : Byte) (fields : RawLayer)
  | readCurve (st : Station) (curve : Byte)
  | writeCurve (st : Station) (curve : Byte) (points : RawCurve)
  | readPlayer (st : Station) (player : Byte)
  | writePlayer (st : Station) (player : Byte) (fields : RawSettings) (calibration : Option RawCalibration)
  | zeroCapture (st : Station) (player : Byte)
  | readPart (st : Station)
  | writePart (st : Station) (renderer steps : Byte)
  | readRoute (st : Station) (station : Byte)
  | writeRoute (st : Station) (station mask : Byte)
  | readVoice (st : Station) (voice : Byte)
  | readPool (st : Station)
  | readAttention (st : Station)
  | takeAttention (st : Station)
  | clearAttention (st : Station) (kinds : BitVec 16)
  | maskAttention (st : Station) (kinds : BitVec 16)
  | unmaskAttention (st : Station) (kinds : BitVec 16)
  | signal (st : Station) (station : Byte)
  -- image memory (chapter 10)
  | storeImage (st : Station)
  | storeStepDone
  | storeBusyLimit
  | loadImage (st : Station)
  | loadBusyWaitEnd
  | loadBusyLimit
  | loadHeaderRead (answer : MemAnswer)
  | loadBodyRead (answer : MemAnswer)
  -- restart (chapters 9, 10 and 11)
  | restart (st : Station)
  | restartRequest
  | powerOn
  | resetAsserted (lowNs : Nat)
  | resetLine
deriving DecidableEq, Repr

/-- The command by which a station's request is executed: the row of the table that bears the request's name. -/
def Request.command (st : Station) : Request → Instr
  | .readStatus => .readStatus st
  | .readCounters => .readCounters st
  | .clearCounters => .clearCounters st
  | .readEntry e => .readEntry st e
  | .writeEntry e f => .writeEntry st e f
  | .clearEntry e => .clearEntry st e
  | .readChart c => .readChart st c
  | .writeChart c f b => .writeChart st c f b
  | .resolve c w => .resolve st c w
  | .readLayer s l => .readLayer st s l
  | .writeLayer s l f => .writeLayer st s l f
  | .readCurve c => .readCurve st c
  | .writeCurve c p => .writeCurve st c p
  | .readPlayer p => .readPlayer st p
  | .writePlayer p f c => .writePlayer st p f c
  | .zeroCapture p => .zeroCapture st p
  | .readPart => .readPart st
  | .writePart r t => .writePart st r t
  | .readRoute x => .readRoute st x
  | .writeRoute x m => .writeRoute st x m
  | .readVoice v => .readVoice st v
  | .readPool => .readPool st
  | .readAttention => .readAttention st
  | .takeAttention => .takeAttention st
  | .clearAttention k => .clearAttention st k
  | .maskAttention k => .maskAttention st k
  | .unmaskAttention k => .unmaskAttention st k
  | .signal x => .signal st x
  | .storeImage => .storeImage st
  | .loadImage => .loadImage st
  | .restart => .restart st

end Sys2Proof
end

