-- ==== Sys2Proof/Decode.lean ====
section
/-!
DEFINITION. The bytes of requests and records (R148): the encodings of fields, the decoder of a request from its
bytes and its encoder, and the host's decodeTableWord. The opcode table gives no row any bits, so that one answers
none for every word.
-/
namespace Sys2Proof

/-- Byte `k` of a byte list; a place past the end is 0. -/
def byteAt (l : List Byte) (k : Nat) : Byte := l.getD k 0

/-- The two-byte field at place `k`, more significant byte first (R148). -/
def wordAt (l : List Byte) (k : Nat) : BitVec 16 := byteAt l k ++ byteAt l (k + 1)

/-- The three-byte field at place `k`, most significant byte first (R148). -/
def threeAt (l : List Byte) (k : Nat) : BitVec 24 := byteAt l k ++ byteAt l (k + 1) ++ byteAt l (k + 2)

/-- A two-byte field as bytes (R148). -/
def twoBytes (w : BitVec 16) : List Byte := [w.extractLsb' 8 8, w.extractLsb' 0 8]

/-- A three-byte field as bytes (R148). -/
def threeBytes (w : BitVec 24) : List Byte := [w.extractLsb' 16 8, w.extractLsb' 8 8, w.extractLsb' 0 8]

/-- An entry's fields as bytes (R148, R168). -/
def RawEntry.bytes (e : RawEntry) : List Byte :=
  [e.valid, e.chart] ++ threeBytes e.care ++ threeBytes e.pattern ++ [e.pitch]

/-- An entry's fields from their nine bytes. -/
def RawEntry.ofBytes (l : List Byte) : RawEntry :=
  { valid := byteAt l 0, chart := byteAt l 1, care := threeAt l 2, pattern := threeAt l 5, pitch := byteAt l 8 }

/-- A layer's fields as bytes (R148, R168). -/
def RawLayer.bytes (y : RawLayer) : List Byte :=
  [y.present, y.interval] ++ twoBytes y.scale ++ [y.curve, y.program, y.low, y.high]

/-- A layer's fields from their eight bytes. -/
def RawLayer.ofBytes (l : List Byte) : RawLayer :=
  { present := byteAt l 0, interval := byteAt l 1, scale := wordAt l 2, curve := byteAt l 4, program := byteAt l 5,
    low := byteAt l 6, high := byteAt l 7 }

/-- A player's 20 setting bytes in their order (R148 note 1). -/
def RawSettings.bytes (x : RawSettings) : List Byte :=
  [x.enabled, x.captureOnEnable, x.chart, x.layerSet, x.transpose, x.settleMs] ++ twoBytes x.gain ++
    twoBytes x.onThreshold ++ twoBytes x.offThreshold ++ [x.k, x.deadBand, x.mode, x.bendDepth] ++
    twoBytes x.deadzone ++ [x.drift, x.reserve]

/-- A player's settings from their 20 bytes. -/
def RawSettings.ofBytes (l : List Byte) : RawSettings :=
  { enabled := byteAt l 0, captureOnEnable := byteAt l 1, chart := byteAt l 2, layerSet := byteAt l 3,
    transpose := byteAt l 4, settleMs := byteAt l 5, gain := wordAt l 6, onThreshold := wordAt l 8,
    offThreshold := wordAt l 10, k := byteAt l 12, deadBand := byteAt l 13, mode := byteAt l 14,
    bendDepth := byteAt l 15, deadzone := wordAt l 16, drift := byteAt l 18, reserve := byteAt l 19 }

/-- The calibration values as bytes: offset, then lip centre (R148). -/
def RawCalibration.bytes (c : RawCalibration) : List Byte := twoBytes c.offset ++ twoBytes c.centre

/-- The calibration values from their four bytes. -/
def RawCalibration.ofBytes (l : List Byte) : RawCalibration := { offset := wordAt l 0, centre := wordAt l 2 }

/-- A curve's nine points as bytes (R148). -/
def curveBytes (c : RawCurve) : List Byte := c.list.flatMap twoBytes

/-- A curve's points from their 18 bytes. -/
def curveOfBytes (l : List Byte) : RawCurve := Tab.ofFn fun i => wordAt l (2 * i.val)

/-- Why a message is no request of the catalogue (R150, checks 1 and 2). -/
inductive RequestError where
  | unknown
  | length
deriving DecidableEq, Repr

/-- Reads a request from its code byte and the bytes after it (R148): the code is looked up first, then the length
is checked (R150). -/
def decodeRequestFields (code : Byte) (l : List Byte) : Except RequestError Request :=
  let exact (n : Nat) (r : Request) : Except RequestError Request := if l.length = n then .ok r else .error .length
  if code = 0x01 then exact 0 .readStatus
  else if code = 0x02 then exact 0 .readCounters
  else if code = 0x03 then exact 0 .clearCounters
  else if code = 0x10 then exact 1 (.readEntry (byteAt l 0))
  else if code = 0x11 then exact 10 (.writeEntry (byteAt l 0) (RawEntry.ofBytes (l.drop 1)))
  else if code = 0x12 then exact 1 (.clearEntry (byteAt l 0))
  else if code = 0x13 then exact 1 (.readChart (byteAt l 0))
  else if code = 0x14 then exact 3 (.writeChart (byteAt l 0) (byteAt l 1) (byteAt l 2))
  else if code = 0x15 then exact 4 (.resolve (byteAt l 0) (threeAt l 1))
  else if code = 0x20 then exact 2 (.readLayer (byteAt l 0) (byteAt l 1))
  else if code = 0x21 then exact 10 (.writeLayer (byteAt l 0) (byteAt l 1) (RawLayer.ofBytes (l.drop 2)))
  else if code = 0x22 then exact 1 (.readCurve (byteAt l 0))
  else if code = 0x23 then exact 19 (.writeCurve (byteAt l 0) (curveOfBytes (l.drop 1)))
  else if code = 0x30 then exact 1 (.readPlayer (byteAt l 0))
  else if code = 0x31 then
    if l.length = 21 then .ok (.writePlayer (byteAt l 0) (RawSettings.ofBytes (l.drop 1)) none)
    else exact 25 (.writePlayer (byteAt l 0) (RawSettings.ofBytes (l.drop 1)) (some (RawCalibration.ofBytes (l.drop 21))))
  else if code = 0x32 then exact 1 (.zeroCapture (byteAt l 0))
  else if code = 0x40 then exact 0 .readPart
  else if code = 0x41 then exact 2 (.writePart (byteAt l 0) (byteAt l 1))
  else if code = 0x42 then exact 1 (.readRoute (byteAt l 0))
  else if code = 0x43 then exact 2 (.writeRoute (byteAt l 0) (byteAt l 1))
  else if code = 0x50 then exact 1 (.readVoice (byteAt l 0))
  else if code = 0x51 then exact 0 .readPool
  else if code = 0x60 then exact 0 .readAttention
  else if code = 0x61 then exact 0 .takeAttention
  else if code = 0x62 then exact 2 (.clearAttention (wordAt l 0))
  else if code = 0x63 then exact 2 (.maskAttention (wordAt l 0))
  else if code = 0x64 then exact 2 (.unmaskAttention (wordAt l 0))
  else if code = 0x65 then exact 1 (.signal (byteAt l 0))
  else if code = 0x70 then exact 0 .storeImage
  else if code = 0x71 then exact 0 .loadImage
  else if code = 0x72 then exact 0 .restart
  else .error .unknown

/-- Reads a request from the bytes of a message, byte 0 the request code (R148). An empty message is none. -/
def decodeRequest (bytes : List Byte) : Except RequestError Request :=
  match bytes with
  | [] => .error .unknown
  | code :: l => decodeRequestFields code l

/-- The bytes of a request (R148). -/
def encodeRequest : Request → List Byte
  | .readStatus => [0x01]
  | .readCounters => [0x02]
  | .clearCounters => [0x03]
  | .readEntry a => 0x10 :: ([a])
  | .writeEntry a b => 0x11 :: ([a] ++ b.bytes)
  | .clearEntry a => 0x12 :: ([a])
  | .readChart a => 0x13 :: ([a])
  | .writeChart a b c => 0x14 :: ([a] ++ [b] ++ [c])
  | .resolve a b => 0x15 :: ([a] ++ threeBytes b)
  | .readLayer a b => 0x20 :: ([a] ++ [b])
  | .writeLayer a b c => 0x21 :: ([a] ++ [b] ++ c.bytes)
  | .readCurve a => 0x22 :: ([a])
  | .writeCurve a b => 0x23 :: ([a] ++ curveBytes b)
  | .readPlayer a => 0x30 :: ([a])
  | .writePlayer a b none => 0x31 :: ([a] ++ b.bytes)
  | .writePlayer a b (some c) => 0x31 :: ([a] ++ b.bytes ++ c.bytes)
  | .zeroCapture a => 0x32 :: ([a])
  | .readPart => [0x40]
  | .writePart a b => 0x41 :: ([a] ++ [b])
  | .readRoute a => 0x42 :: ([a])
  | .writeRoute a b => 0x43 :: ([a] ++ [b])
  | .readVoice a => 0x50 :: ([a])
  | .readPool => [0x51]
  | .readAttention => [0x60]
  | .takeAttention => [0x61]
  | .clearAttention a => 0x62 :: (twoBytes a)
  | .maskAttention a => 0x63 :: (twoBytes a)
  | .unmaskAttention a => 0x64 :: (twoBytes a)
  | .signal a => 0x65 :: ([a])
  | .storeImage => [0x70]
  | .loadImage => [0x71]
  | .restart => [0x72]

/-- The command that a word spells by the table's bits: the opcode table gives no row any bits, so no word spells
one. -/
def decodeTableWord (_nbits _w : Nat) : Option Instr := none

end Sys2Proof
end

