-- ==== Sys2Proof/Config.lean ====
section
/-!
DEFINITION. The fixed numbers of the part: counts, limits and times the rules name. The spec leaves no value of an
operation free, so there is no free value here.
-/
namespace Sys2Proof.Config

/-- Samples of a run that enter or leave FAULT (R12, R13). -/
def faultRun : Nat := 64

/-- Sweeps of warm-up (R5). -/
def warmupSweeps : Nat := 8

/-- Sweeps of a zero capture (R8). -/
def captureSweeps : Nat := 16

/-- Sweeps of a drift block (R11). -/
def driftSweeps : Nat := 256

/-- The drift window, in counts (R11). -/
def driftWindow : Nat := 96

/-- Entries a waiting list may hold (R111, R125). -/
def queueCapacity : Nat := 160

/-- Bytes a request buffer may hold (R144). -/
def requestCapacity : Nat := 40

/-- Consecutive bad slots that lose a present station (R134). -/
def lostRun : Nat := 16

/-- The value at which every counter stays (R166). -/
def counterTop : Nat := 65535

/-- The yield count of a station that has just lost the grant (R160). -/
def yieldCount : Nat := 2

/-- Bit times of 250 ns in a millisecond (chapter 11, R176). -/
def bitsPerMs : Nat := 4000

/-- Bit times in a frame of 250 µs (R130, R176). -/
def bitsPerFrame : Nat := 1000

/-- Bit times in a station period (R176). -/
def bitsPerPeriod : Nat := 250

/-- Bit times of a downstream slot, from the start of its period (R176). -/
def downstreamBits : Nat := 104

/-- The bit time at which an upstream slot is taken within its period (R176). -/
def upstreamEnd : Nat := 171

/-- The busy limit of a load and of an erase, in bit times (R170, R173). -/
def longBusyLimit : Nat := 400 * bitsPerMs

/-- The busy limit of a page program, in bit times (R173). -/
def pageBusyLimit : Nat := 10 * bitsPerMs

/-- Milliseconds in one step of the return timeout (R99). -/
def msPerReturnStep : Nat := 100

/-- Bytes of an image page (R167). -/
def pageBytes : Nat := 64

/-- Bytes of an image body (R168). -/
def bodyBytes : Nat := 2118

/-- Body pages of an image, pages 1 to 34 (R173). -/
def bodyPages : Nat := 34

/-- Bytes of sector 0, the only part of the image memory that is used (R167). -/
def sectorBytes : Nat := 4096

/-- The version byte of an image (R168). -/
def imageVersion : Nat := 1

/-- The shortest low of RESET that is taken as an assertion, in ns (R179). -/
def resetLowNs : Nat := 1000

/-- The breath offset after restart and under the defaults (R6, R172). -/
def defaultOffset : Nat := 300

/-- The lip centre after restart and under the defaults (R6, R172). -/
def defaultCentre : Nat := 2048

end Sys2Proof.Config
end

