-- ==== Sys2Proof/Machine/State.lean ====
section
/-!
DEFINITION. The state of the part, all of it plain data, and its value right after a POWER-ON restart. Each field's
docstring names the rule that gives it.
-/
namespace Sys2Proof.Machine

open Sys2Proof

/-- Faults. No command of the part ends in one: what the spec calls a sensor fault is a channel's state (R12), and a
refused request is answered by a status byte (R150). So there is no constructor (safe). -/
inductive Fault where
deriving DecidableEq, Repr

/-- Refusals. -/
inductive Refusal where
  /-- The host's own: raised for a command without a meaning. No arm of exec raises it (safe). -/
  | notModelled (mnemonic : String)
deriving DecidableEq, Repr

/-- Fault state of a sensor channel (chapter 1). -/
inductive ChannelState where
  | normal
  | fault
deriving DecidableEq, Repr

/-- A sensor channel: its fault state and fault run (R12, R13). -/
structure Channel where
  state : ChannelState
  run : Nat
deriving DecidableEq, Repr

/-- Articulation state of a player (R65). -/
inductive ArtState where
  | disabled
  | warmup
  | capture
  | silent
  | sounding
  | quiet
deriving DecidableEq, Repr

/-- One use of a voice: voice number and generation (chapter 6). -/
structure Incarnation where
  voice : VoiceNo
  gen : BitVec 4
deriving DecidableEq, Repr

/-- A player's note record (R66); the source `none` is FALLBACK. -/
structure NoteRecord where
  base : Nat
  source : Option EntryNo
  slots : Tab (Option Incarnation) 4
deriving DecidableEq, Repr

/-- Everything the blocks hold per player. -/
structure PlayerState where
  /-- Articulation state (R65). -/
  art : ArtState
  /-- Note record, present or absent (R66). -/
  note : Option NoteRecord
  /-- Breath channel (R12). -/
  breath : Channel
  /-- Lip channel (R12). -/
  lip : Channel
  /-- Warm-up count (R4). -/
  warmup : Nat
  /-- Capture count (R8). -/
  captureCount : Nat
  /-- Capture sums (R8). -/
  breathSum : Nat
  lipSum : Nat
  /-- Capture taints (R8). -/
  breathTaint : Bool
  lipTaint : Bool
  /-- Capture requester (R7). -/
  captureFor : Option Station
  /-- Drift block (R10). -/
  driftCount : Nat
  driftSum : Nat
  /-- Breath offset and lip centre (R6). -/
  offset : Nat
  centre : Nat
  /-- Debounced states: keys 0–23, octave contacts 1–6 in bits 24–29, hold contact in bit 30; 1 is closed (R18). -/
  debounced : BitVec 31
  /-- Pending marks, in the same places (R18). -/
  marks : BitVec 31
  /-- Take-over mark, set by an enable until the take-over at a scan's completion (R24). -/
  takeOver : Bool
  /-- Fingering word (R19). -/
  word : BitVec 24
  /-- Octave offset (R20). -/
  octave : Int
  /-- Hold state, true for held (R21). -/
  held : Bool
  /-- Settle timer: stopped, or the bit times that remain (R56). -/
  settle : Option Nat
  /-- Note resolved pitch (R55). -/
  resolved : Nat
  /-- Current n, current bend and last reported bend (chapter 3). -/
  n : Nat
  bend : Int
  lastBend : Int
deriving DecidableEq, Repr

/-- A sweep in progress (R1): the players whose channels it converts, which of them were in CAPTURE when it started
(R7), and the raw samples of each player, breath then lip. -/
structure Sweep where
  set : Pair Bool
  inCapture : Pair Bool
  samples : Pair (Sample × Sample)
deriving DecidableEq, Repr

/-- A scan in progress (R17): each player's 31 readings, whether it was enabled at the start and has not been disabled
since (R22, R25), and whether the scan performs its take-over: its mark was set when the scan started, and it has not
been disabled since (R24, R25). -/
structure Scan where
  readings : Pair (BitVec 31)
  enabled : Pair Bool
  takeOver : Pair Bool
deriving DecidableEq, Repr

/-- State of a voice (chapter 6). -/
inductive VoiceState where
  | free
  | active
  | held
  | releasing
deriving DecidableEq, Repr

/-- A voice record (R86). -/
structure Voice where
  state : VoiceState
  gen : BitVec 4
  player : Player
  layer : LayerNo
  pitch : Nat
  bend : Int
  level : Nat
  program : Byte
  curve : Fin 4
  scale : Nat
  s : Nat
  lastLevel : Nat
  releaseTaken : Bool
  /-- Return timer: stopped, or the bit times that remain (R99). -/
  timer : Option Nat
  /-- DEDUCED (entry 14): the model's own count of the voice's STARTs, which tells the uses of R118 apart. -/
  use : Nat
deriving DecidableEq, Repr

/-- What a queue entry says (R112). -/
inductive Event where
  | start (layer : LayerNo) (pitch : Nat) (bend : Int) (level : Nat) (program : Byte)
  | pitch (pitch : Nat) (bend : Int)
  | level (level : Nat)
  | release
  | cut
deriving DecidableEq, Repr

/-- A queue entry: an event of one incarnation with the player whose event it is (R111) and the use of the voice it
belongs to (R118), or a SYNC (R126). -/
inductive Entry where
  | voice (inc : Incarnation) (player : Player) (use : Nat) (event : Event)
  | sync
deriving DecidableEq, Repr

/-- Station codes the part recognizes (R135). -/
inductive Code where
  | ready
  | hold
  | releaseAll
  | cutAll
  | absent
deriving DecidableEq, Repr

/-- State of a message lane (R143). -/
inductive Lane where
  | receiving
  | sending
  | refusing
deriving DecidableEq, Repr

/-- Everything the blocks hold per station. -/
structure StationState where
  /-- Confirmed and candidate code (R136). -/
  code : Code
  candidate : Option Code
  /-- Bad-slot run (R133). -/
  badRun : Nat
  /-- Current event echo (R141). -/
  echo : Bool
  /-- Processed return toggle (R142). -/
  returnToggle : Bool
  /-- Lane state (R143). -/
  lane : Lane
  /-- Request buffer (R144). -/
  request : List Byte
  /-- Accepted request toggle (R144). -/
  requestToggle : Bool
  /-- Response buffer and the position of the byte to offer (R145). -/
  response : List Byte
  position : Nat
  /-- Whether the byte at the position has been offered in a slot (R145). -/
  onOffer : Bool
  /-- Offered response toggle (R145). -/
  responseToggle : Bool
  /-- A RESTART of this station has been executed and waits for its response to end (R157). -/
  restartWaits : Bool
  /-- The 13 bytes last sent downstream to the station, none before the first slot (R131). -/
  sent : List Byte
  /-- Waiting list, head first (R111). -/
  waiting : List Entry
  /-- Delivery position: the in-flight entry with its toggle (R115). -/
  delivery : Option (Entry × Bool)
  /-- Confirmed edit request and candidate (R158). -/
  editRequest : Bool
  editCandidate : Option Bool
  /-- Yield count (R161). -/
  yield : Nat
  /-- Pending set and mask set, kind k in bit k (R163). -/
  attention : BitVec 14
  masked : BitVec 14
deriving DecidableEq, Repr

/-- A fingering table entry (R47). -/
structure TableEntry where
  valid : Bool
  chart : Fin 4
  care : BitVec 24
  pattern : BitVec 24
  pitch : Nat
deriving DecidableEq, Repr

/-- What a chart's fallback gives (R53). -/
inductive Fallback where
  | hold
  | base
deriving DecidableEq, Repr

/-- A chart's settings (R50). -/
structure Chart where
  fallback : Fallback
  base : Nat
deriving DecidableEq, Repr

/-- A layer of a layer set (chapter 9, R151). -/
structure Layer where
  present : Bool
  interval : Int
  scale : Nat
  curve : Fin 4
  program : Byte
  low : Nat
  high : Nat
deriving DecidableEq, Repr

/-- What a pitch change does to a note (chapter 5). -/
inductive Mode where
  | legato
  | retrigger
deriving DecidableEq, Repr

/-- A player's settings (R148 note 1). -/
structure Settings where
  enabled : Bool
  captureOnEnable : Bool
  chart : Fin 4
  layerSet : Fin 8
  transpose : Int
  settleMs : Nat
  gain : Nat
  onThreshold : Nat
  offThreshold : Nat
  k : Nat
  deadBand : Nat
  mode : Mode
  bendDepth : Nat
  deadzone : Nat
  drift : Bool
  reserve : Nat
deriving DecidableEq, Repr

/-- A curve: its nine points (R33). -/
abbrev Curve := Tab Nat 9

/-- The tables and settings that requests write and an image holds (R154, R168), less the calibration values. -/
structure Tables where
  entries : Tab TableEntry 192
  charts : Tab Chart 4
  layers : Tab (Tab Layer 4) 8
  curves : Tab Curve 4
  settings : Pair Settings
  renderer : Station
  returnSteps : Nat
  routes : Tab (Pair Bool) 4
deriving DecidableEq, Repr

/-- The 13 counters (R166). -/
structure Counters where
  steals : Nat
  droppedLayers : Nat
  reclaims : Nat
  earlyReturns : Nat
  lateReturns : Nat
  staleReturns : Nat
  overflows : Nat
  sensorFaults : Nat
  unrecognizedCodes : Nat
  badSlots : Tab Nat 4
deriving DecidableEq, Repr

/-- Part state (R169). -/
inductive PartState where
  | loading
  | run
  | storing
deriving DecidableEq, Repr

/-- Restart cause (R175). -/
inductive RestartCause where
  | powerOn
  | resetLine
  | restartRequest
deriving DecidableEq, Repr

/-- Load progress (R170): the busy wait with its elapsed bit times, the header read, or the body read with the sum the
header gave. -/
inductive LoadStep where
  | busyWait (elapsed : Nat)
  | header
  | body (sum : BitVec 16)
deriving DecidableEq, Repr

/-- The steps of a store (R173). -/
inductive StoreStep where
  | erase
  | page (n : Nat)
  | header
deriving DecidableEq, Repr

/-- Store progress: the step and its elapsed bit times (R173). -/
structure StoreProgress where
  step : StoreStep
  elapsed : Nat
deriving DecidableEq, Repr

/-- A transaction on the memory port: the bytes sent and how many bytes are read back (R167). -/
structure Transaction where
  sent : List Byte
  reads : Nat
deriving DecidableEq, Repr

/-- The signals the part drives, as they stand after a command (chapter 11). -/
structure Pins where
  /-- Whether the link clock runs (R176). -/
  lck : Bool
  /-- Whether LSY is high, as it is for the first bit time of station 0's slot (R176). -/
  lsy : Bool
  /-- The bytes being driven on LDO, none while it is low (R176). -/
  ldo : List Byte
  /-- What KD0–KD7 show: the values driven one after another by the scan in progress, or the one value they rest at;
  bit d is KDd (R178). -/
  kd : List (BitVec 8)
  /-- Memory select, low while the memory is selected (R167, R179). -/
  msl : Bool
  /-- Whether the memory clock runs (R179). -/
  mck : Bool
deriving DecidableEq, Repr

/-- The state of the part. -/
structure State where
  /-- Commands waiting, first in, first out. -/
  pending : List Instr
  /-- Per-player state of the converter, scanner, shaping unit, resolver and articulation controller. -/
  players : Pair PlayerState
  /-- The sweep in progress (R1). -/
  sweep : Option Sweep
  /-- The scan in progress (R17). -/
  scan : Option Scan
  /-- Voice records (R86). -/
  voices : Tab Voice 32
  /-- Free list, head first (R87). -/
  freeList : List VoiceNo
  /-- Start-order list, oldest first (R88). -/
  startOrder : List VoiceNo
  /-- Tables and settings (R154). -/
  tables : Tables
  /-- Per-station state of the link, queues, arbiter and attention unit. -/
  stations : Tab StationState 4
  /-- Grant holder, none for FREE (R159). -/
  grant : Option Station
  /-- Counters (R166). -/
  counters : Counters
  /-- Part state (R169). -/
  partState : PartState
  /-- Restart cause (R175). -/
  cause : RestartCause
  /-- Load progress (R170). -/
  load : Option LoadStep
  /-- Store progress, snapshot and requester (R173). -/
  store : Option StoreProgress
  snapshot : List Byte
  storeFor : Option Station
  /-- Sector 0 of the image memory as the part's commands left it (R167, R173), in the canonical form of
  `flashWellFormed`. -/
  flash : List Host.Cell
  /-- The transactions last begun on the memory port (R167). -/
  port : List Transaction
  /-- Signals the part drives (chapter 11). -/
  pins : Pins
  /-- Place in the frame, in bit times (R130, R176). -/
  bitTime : Nat
  /-- RESET is taken as asserted (R179). -/
  resetHeld : Bool
  /-- The line was asserted when supply came up (R175). -/
  heldFromPowerUp : Bool
deriving DecidableEq, Repr

/-- A channel after restart (R16). -/
def Channel.reset : Channel := { state := .normal, run := 0 }

/-- A player's state after restart (R16, R29, R46, R55, R61, R84). -/
def PlayerState.reset : PlayerState where
  art := .disabled
  note := none
  breath := Channel.reset
  lip := Channel.reset
  warmup := 0
  captureCount := 0
  breathSum := 0
  lipSum := 0
  breathTaint := false
  lipTaint := false
  captureFor := none
  driftCount := 0
  driftSum := 0
  offset := Config.defaultOffset
  centre := Config.defaultCentre
  debounced := 0
  marks := 0
  takeOver := false
  word := 0
  octave := 0
  held := false
  settle := none
  resolved := 0
  n := 0
  bend := 0
  lastBend := 0

/-- A voice record after restart (R110). -/
def Voice.reset : Voice where
  state := .free
  gen := 0
  player := .p1
  layer := 0
  pitch := 0
  bend := 0
  level := 0
  program := 0
  curve := 0
  scale := 0
  s := 0
  lastLevel := 0
  releaseTaken := false
  timer := none
  use := 0

/-- A station's state after restart (R111, R147, R158, R163). -/
def StationState.reset : StationState where
  code := .absent
  candidate := none
  badRun := 0
  echo := false
  returnToggle := false
  lane := .receiving
  request := []
  requestToggle := false
  response := []
  position := 0
  onOffer := false
  responseToggle := false
  restartWaits := false
  sent := []
  waiting := []
  delivery := none
  editRequest := false
  editCandidate := none
  yield := 0
  attention := 0
  masked := BitVec.allOnes 14

/-- A cleared entry (R47, R49, R172). -/
def TableEntry.cleared : TableEntry := { valid := false, chart := 0, care := 0, pattern := 0, pitch := 0 }

/-- The default chart (R50, R172). -/
def Chart.default : Chart := { fallback := .hold, base := 60 }

/-- A layer not present, under the defaults (R172). -/
def Layer.notPresent : Layer :=
  { present := false, interval := 0, scale := 0, curve := 0, program := 0, low := 0, high := 127 }

/-- Layer 0 of layer set 0 under the defaults (R172). -/
def Layer.first : Layer := { Layer.notPresent with present := true, scale := 256 }

/-- The default curve: point i is min(1023, 128 × i) (R172). -/
def Curve.default : Curve := Tab.ofFn fun i => min 1023 (128 * i.val)

/-- A player's default settings, with the enabled setting given (R172). -/
def Settings.default (enabled : Bool) : Settings where
  enabled := enabled
  captureOnEnable := true
  chart := 0
  layerSet := 0
  transpose := 0
  settleMs := 8
  gain := 256
  onThreshold := 200
  offThreshold := 120
  k := 4
  deadBand := 4
  mode := .legato
  bendDepth := 64
  deadzone := 32
  drift := true
  reserve := 0

/-- The built-in defaults (R172). -/
def Tables.defaults : Tables where
  entries := Tab.const 192 TableEntry.cleared
  charts := Tab.const 4 Chart.default
  layers := (Tab.const 8 (Tab.const 4 Layer.notPresent)).set 0 ((Tab.const 4 Layer.notPresent).set 0 Layer.first)
  curves := Tab.const 4 Curve.default
  settings := { p1 := Settings.default true, p2 := Settings.default false }
  renderer := 0
  returnSteps := 30
  routes := Tab.const 4 (Pair.both false)

/-- The tables after restart: the defaults, with both players' enabled setting off (R175). -/
def Tables.reset : Tables :=
  { Tables.defaults with settings := Pair.both (Settings.default false) }

/-- All counters at 0 (R166). -/
def Counters.zero : Counters where
  steals := 0
  droppedLayers := 0
  reclaims := 0
  earlyReturns := 0
  lateReturns := 0
  staleReturns := 0
  overflows := 0
  sensorFaults := 0
  unrecognizedCodes := 0
  badSlots := Tab.const 4 0

/-- KD0–KD7 outside a scan: all high. DESIGN CHOICE, unsafe (entry 22): R179 says so under RESET only. -/
def restingDrives : List (BitVec 8) := [BitVec.allOnes 8]

/-- The signals after restart and while RESET is asserted (R179). -/
def Pins.quiet : Pins := { lck := false, lsy := false, ldo := [], kd := restingDrives, msl := true, mck := false }

/-- The status read of a busy wait (R167). -/
def statusRead : Transaction := { sent := [0x05], reads := 1 }

/-- The part right after a restart of cause POWER-ON (R175), with the image load begun and no command waiting.
DESIGN CHOICE, unsafe (entry 10): that the cause is POWER-ON and that the image memory is erased. -/
def State.reset : State where
  pending := []
  players := Pair.both PlayerState.reset
  sweep := none
  scan := none
  voices := Tab.const 32 Voice.reset
  freeList := upTo 32
  startOrder := []
  tables := Tables.reset
  stations := Tab.const 4 StationState.reset
  grant := none
  counters := Counters.zero
  partState := .loading
  cause := .powerOn
  load := some (.busyWait 0)
  store := none
  snapshot := []
  storeFor := none
  flash := []
  port := [statusRead]
  pins := Pins.quiet
  bitTime := 0
  resetHeld := false
  heldFromPowerUp := false

end Sys2Proof.Machine
end

