-- ==== Sys2Proof/Machine/Ops.lean ====
section
/-!
DEFINITION. Named operations over the state: reading and replacing the part that belongs to one player, voice or
station, the bytes of the image memory, and the passing of time.
-/
namespace Sys2Proof.Machine

open Sys2Proof

/-- What the blocks hold for player `p`. -/
def State.player (s : State) (p : Player) : PlayerState := s.players.get p

/-- Changes what the blocks hold for player `p`. -/
def State.modPlayer (p : Player) (f : PlayerState → PlayerState) (s : State) : State :=
  { s with players := s.players.set p (f (s.players.get p)) }

/-- The record of voice `v` (R86). -/
def State.voice (s : State) (v : VoiceNo) : Voice := s.voices.get v

/-- Changes the record of voice `v`. -/
def State.modVoice (v : VoiceNo) (f : Voice → Voice) (s : State) : State :=
  { s with voices := s.voices.set v (f (s.voices.get v)) }

/-- What the blocks hold for station `st`. -/
def State.station (s : State) (st : Station) : StationState := s.stations.get st

/-- Changes what the blocks hold for station `st`. -/
def State.modStation (st : Station) (f : StationState → StationState) (s : State) : State :=
  { s with stations := s.stations.set st (f (s.stations.get st)) }

/-- Changes the tables and settings. -/
def State.modTables (f : Tables → Tables) (s : State) : State := { s with tables := f s.tables }

/-- Changes the counters. -/
def State.modCounters (f : Counters → Counters) (s : State) : State := { s with counters := f s.counters }

/-- The settings of player `p`. -/
def State.settings (s : State) (p : Player) : Settings := s.tables.settings.get p

/-- The layer numbered `L` of the layer set standing in player `p`'s settings (R68, R73). -/
def State.layer (s : State) (p : Player) (L : LayerNo) : Layer :=
  (s.tables.layers.get (s.settings p).layerSet).get L

/-- The confirmed code of a station says that it takes part in the link. -/
def State.present (s : State) (st : Station) : Bool := decide ((s.station st).code ≠ .absent)

/-- A block's work, which is not done while RESET is asserted: the part is then held at its restart values (R175,
R179). -/
def unlessHeld (f : State → State) (s : State) : State := if s.resetHeld then s else f s

/-! ### The image memory (R167) -/

/-- What a byte of the image memory reads: FFh where no cell is listed, as an erased byte does. -/
def Memory.read : List Host.Cell → Nat → Byte
  | [], _ => 0xFF
  | (b, x) :: r, a => if b = a then x else Memory.read r a

/-- Writes one byte, keeping addresses rising and listing no byte that reads FFh anyway. -/
def Memory.write : List Host.Cell → Nat → Byte → List Host.Cell
  | [], a, x => if x = 0xFF then [] else [(a, x)]
  | (b, y) :: r, a, x =>
    if a < b then (if x = 0xFF then (b, y) :: r else (a, x) :: (b, y) :: r)
    else if a = b then (if x = 0xFF then r else (a, x) :: r)
    else (b, y) :: Memory.write r a x

/-- The canonical form: addresses strictly rising, and no listed byte reads FFh. -/
def Memory.wf : List Host.Cell → Bool
  | [] => true
  | [(_, x)] => x != 0xFF
  | (a, x) :: (b, y) :: r => x != 0xFF && decide (a < b) && Memory.wf ((b, y) :: r)

/-- Writes consecutive bytes from an address on. -/
def Memory.writeBytes (m : List Host.Cell) (a : Nat) : List Byte → List Host.Cell
  | [] => m
  | x :: l => Memory.writeBytes (Memory.write m a x) (a + 1) l

/-- Reads `n` consecutive bytes from an address on. -/
def Memory.readBytes (m : List Host.Cell) (a n : Nat) : List Byte :=
  (List.range n).map fun i => Memory.read m (a + i)

/-- A sector erase of sector 0: every byte of it reads FFh (R167, R173). -/
def Memory.eraseSector (m : List Host.Cell) : List Host.Cell := m.filter fun c => decide (Config.sectorBytes ≤ c.1)

/-! ### Time (R130, R176) -/

/-- A timer after `d` bit times: a running one holds what remains, down to 0 (R56, R99). -/
def elapseTimer (d : Nat) (t : Option Nat) : Option Nat := t.map (· - d)

/-- A busy wait's elapsed time after `d` bit times, up to its limit (R170). -/
def elapseLoad (d : Nat) : LoadStep → LoadStep
  | .busyWait e => .busyWait (min Config.longBusyLimit (e + d))
  | .header => .header
  | .body sum => .body sum

/-- The busy limit of a store step (R173). -/
def StoreStep.limit : StoreStep → Nat
  | .erase => Config.longBusyLimit
  | .page _ => Config.pageBusyLimit
  | .header => Config.pageBusyLimit

/-- A store step's elapsed time after `d` bit times, up to its limit (R173). -/
def elapseStore (d : Nat) (x : StoreProgress) : StoreProgress := { x with elapsed := min x.step.limit (x.elapsed + d) }

/-- `d` bit times pass for every timer of the part. -/
def State.elapse (d : Nat) (s : State) : State :=
  { s with
    players :=
      { p1 := { s.players.p1 with settle := elapseTimer d s.players.p1.settle }
        p2 := { s.players.p2 with settle := elapseTimer d s.players.p2.settle } }
    voices := s.voices.map fun x => { x with timer := elapseTimer d x.timer }
    load := s.load.map (elapseLoad d)
    store := s.store.map (elapseStore d) }

/-- The link's lines `d` bit times after a place in the frame: LSY is high for one bit time only, and LDO is low once the
104 bits of the period's slot are out (R176). -/
def Pins.after (place d : Nat) (x : Pins) : Pins :=
  { x with
    lsy := x.lsy && d == 0
    ldo := if d = 0 ∨ place % Config.bitsPerPeriod + d < Config.downstreamBits then x.ldo else [] }

/-- The frame reaches bit time `t`, and the time since the last event of the frame passes. DESIGN CHOICE, unsafe
(entry 4): time passes only at the link's own events and at the two expiries. -/
def State.advanceTo (t : Nat) (s : State) : State :=
  { s.elapse (t - s.bitTime) with bitTime := max s.bitTime t, pins := s.pins.after s.bitTime (t - s.bitTime) }

/-- The bit times from the place in the frame to the next place where the link acts: the end of an upstream slot at bit
171 of its period, the start of a period, or the end of the frame (R130, R176). -/
def State.untilLinkEvent (s : State) : Nat :=
  let place := s.bitTime % Config.bitsPerPeriod
  min (if place < Config.upstreamEnd then Config.upstreamEnd - place else Config.bitsPerPeriod - place)
    (Config.bitsPerFrame - s.bitTime)

/-- A timer's running out, at the moment when nothing of it remains: the remaining time passes, and the work is done. A
stopped timer, or one that has time left beyond the next link event, does not run out now (R62, R99). DESIGN CHOICE,
unsafe (entry 5). -/
def atExpiry (timer : State → Option Nat) (work : State → State) (s : State) : State :=
  match timer s with
  | some d => if d ≤ s.untilLinkEvent then work (s.advanceTo (s.bitTime + d)) else s
  | none => s

/-- A new frame starts: the rest of the last frame passes, its last slot long over (R130, R176). -/
def State.nextFrame (s : State) : State :=
  { s.elapse (Config.bitsPerFrame - s.bitTime) with bitTime := 0, pins := { s.pins with ldo := [], lsy := false } }

end Sys2Proof.Machine
end

