-- ==== Sys2Proof/Machine/Flags.lean ====
section
/-!
DEFINITION. Notices and counters: the 14 attention kinds (R163), how each is set pending, the attention mark (R164),
and how a counter advances (R166).
-/
namespace Sys2Proof.Machine

open Sys2Proof

/-- The attention kinds (R163). -/
inductive Kind where
  | rendererLost
  | sensor
  | overflow
  | reclaim
  | badReturn
  | steal
  | layerDropped
  | stationChange
  | grantChange
  | storeDone
  | storeFailed
  | captureDone
  | imageDefaulted
  | signal
deriving DecidableEq, Repr

/-- The number of a kind (R163). -/
def Kind.number : Kind → Nat
  | .rendererLost => 0
  | .sensor => 1
  | .overflow => 2
  | .reclaim => 3
  | .badReturn => 4
  | .steal => 5
  | .layerDropped => 6
  | .stationChange => 7
  | .grantChange => 8
  | .storeDone => 9
  | .storeFailed => 10
  | .captureDone => 11
  | .imageDefaulted => 12
  | .signal => 13

/-- The set holding one kind. -/
def Kind.bit (k : Kind) : BitVec 14 := 1#14 <<< k.number

/-- A station's state with a kind pending (R163). -/
def StationState.withPending (k : Kind) (x : StationState) : StationState :=
  { x with attention := x.attention ||| k.bit }

/-- Sets a kind pending for one station. -/
def setPending (k : Kind) (st : Station) (s : State) : State := s.modStation st (StationState.withPending k)

/-- Sets a broadcast kind pending for every station whose confirmed code is not ABSENT (R163). -/
def broadcast (k : Kind) (s : State) : State :=
  { s with stations := s.stations.map fun x => if x.code = .absent then x else x.withPending k }

/-- Sets a requester kind pending for the requester, if there is one and it is not ABSENT (R163). -/
def notify (k : Kind) (requester : Option Station) (s : State) : State :=
  match requester with
  | none => s
  | some st => if s.present st then setPending k st s else s

/-- A station's attention mark: some pending kind is not masked (R164). -/
def StationState.mark (x : StationState) : Bool := (x.attention &&& ~~~x.masked) != 0

/-- The lowest-numbered kind that is pending and not masked (R164). -/
def StationState.nextKind (x : StationState) : Option Nat :=
  (List.range 14).find? fun k => x.attention.getLsbD k && !x.masked.getLsbD k

/-- A counter advances by one and stays at 65535 (R166). -/
def countUp (n : Nat) : Nat := min Config.counterTop (n + 1)

end Sys2Proof.Machine
end

