-- ==== Sys2Proof/Machine/Queues.lean ====
section
/-!
DEFINITION. The station event queues: routing (R113), coalescing and cancellation (R116 to R119), overflow (R125),
route writes (R114) and the change of the renderer station (R128).
-/
namespace Sys2Proof.Machine

open Sys2Proof

/-- A station receives the events of player `p`: the renderer station all of them, another by its route mask, neither
while ABSENT (R113). -/
def State.receives (s : State) (st : Station) (p : Player) : Bool :=
  s.present st && (decide (st = s.tables.renderer) || (s.tables.routes.get st).get p)

/-- Replaces a station's waiting list. -/
def setWaiting (st : Station) (w : List Entry) (s : State) : State := s.modStation st fun x => { x with waiting := w }

/-- A monitor queue overflows: every waiting entry is removed, one SYNC is placed, OVERFLOW is set for that station and
the counter advances (R125). -/
def overflowQueue (st : Station) (s : State) : State :=
  setPending .overflow st
    ((setWaiting st [.sync] s).modCounters fun c => { c with overflows := countUp c.overflows })

/-- Appends an entry at the tail, or overflows a monitor queue that it would take above 160 (R111, R125). -/
def appendEntry (st : Station) (e : Entry) (s : State) : State :=
  if st ≠ s.tables.renderer ∧ Config.queueCapacity ≤ (s.station st).waiting.length then overflowQueue st s
  else setWaiting st ((s.station st).waiting ++ [e]) s

/-- The entry belongs to this use of the voice (R118). DEDUCED (entry 14): the use tells apart incarnations whose
wrapped generations agree. -/
def Entry.ofUse (v : VoiceNo) (use : Nat) : Entry → Bool
  | .voice inc _ u _ => decide (inc.voice = v) && decide (u = use)
  | .sync => false

/-- The entry is a START. -/
def Entry.isStart : Entry → Bool
  | .voice _ _ _ (.start _ _ _ _ _) => true
  | _ => false

/-- The entry is a LEVEL. -/
def Entry.isLevel : Entry → Bool
  | .voice _ _ _ (.level _) => true
  | _ => false

/-- The entry is a PITCH. -/
def Entry.isPitch : Entry → Bool
  | .voice _ _ _ (.pitch _ _) => true
  | _ => false

/-- The entry is a CUT. -/
def Entry.isCut : Entry → Bool
  | .voice _ _ _ .cut => true
  | _ => false

/-- An entry with its level overwritten (R116). -/
def Entry.withLevel (x : Nat) : Entry → Entry
  | .voice i p u (.start L pi b _ g) => .voice i p u (.start L pi b x g)
  | .voice i p u (.level _) => .voice i p u (.level x)
  | e => e

/-- An entry with its pitch and bend overwritten (R117). -/
def Entry.withPitch (pi : Nat) (b : Int) : Entry → Entry
  | .voice i p u (.start L _ _ l g) => .voice i p u (.start L pi b l g)
  | .voice i p u (.pitch _ _) => .voice i p u (.pitch pi b)
  | e => e

/-- Whether some entry of this use and kind is waiting. -/
def waits (v : VoiceNo) (use : Nat) (kind : Entry → Bool) (w : List Entry) : Bool :=
  w.any fun e => e.ofUse v use && kind e

/-- Overwrites in place the waiting entries of this use and kind. -/
def overwrite (v : VoiceNo) (use : Nat) (kind : Entry → Bool) (f : Entry → Entry) (w : List Entry) : List Entry :=
  w.map fun e => if e.ofUse v use && kind e then f e else e

/-- Removes the waiting START, PITCH, LEVEL and RELEASE of this use (R119). -/
def removeUse (v : VoiceNo) (use : Nat) (w : List Entry) : List Entry :=
  w.filter fun e => !(e.ofUse v use && !e.isCut)

/-- Merges an event of a later kind into a waiting START of its use, else into a waiting entry of its own kind, else
appends it (R116, R117). -/
def mergeEntry (st : Station) (v : VoiceNo) (use : Nat) (kind : Entry → Bool) (f : Entry → Entry) (e : Entry)
    (s : State) : State :=
  let w := (s.station st).waiting
  if waits v use Entry.isStart w then setWaiting st (overwrite v use Entry.isStart f w) s
  else if waits v use kind w then setWaiting st (overwrite v use kind f w) s
  else appendEntry st e s

/-- Applies an event to one receiving queue by the rule of its kind (R116 to R119). -/
def placeEvent (st : Station) (v : VoiceNo) (gen : BitVec 4) (p : Player) (use : Nat) (ev : Event) (s : State) : State :=
  let e := Entry.voice ⟨v, gen⟩ p use ev
  match ev with
  | .level x => mergeEntry st v use Entry.isLevel (Entry.withLevel x) e s
  | .pitch pi b => mergeEntry st v use Entry.isPitch (Entry.withPitch pi b) e s
  | .start _ _ _ _ _ => appendEntry st e s
  | .release => appendEntry st e s
  | .cut =>
    let w := (s.station st).waiting
    if waits v use Entry.isStart w then setWaiting st (removeUse v use w) s
    else appendEntry st e (setWaiting st (removeUse v use w) s)

/-- Issues an event of the voice's present incarnation to the queue of each station that is to receive it (R113). -/
def issue (v : VoiceNo) (ev : Event) (s : State) : State :=
  (upTo 4).foldl
    (fun t st =>
      if t.receives st (s.voice v).player then
        placeEvent st v (s.voice v).gen (s.voice v).player (s.voice v).use ev t
      else t)
    s

/-- The entry's player is `p` (R114). SYNC entries have none. -/
def Entry.isOf (p : Player) : Entry → Bool
  | .voice _ q _ _ => decide (q = p)
  | .sync => false

/-- Places a SYNC in the queue of a station that is not ABSENT (R114, R127). -/
def placeSync (st : Station) (s : State) : State := if s.present st then appendEntry st .sync s else s

/-- Removes the waiting entries of a player whose mark goes off (R114). -/
def dropRoute (st : Station) (p : Player) (old new : Pair Bool) (s : State) : State :=
  if old.get p && !new.get p then setWaiting st ((s.station st).waiting.filter fun e => !e.isOf p) s else s

/-- A mark goes on (R114). -/
def routeGained (old new : Pair Bool) : Bool := (!old.p1 && new.p1) || (!old.p2 && new.p2)

/-- The queue's part of a changed route mask, at a station that is not the renderer: the removals first, then the SYNC.
DESIGN CHOICE, unsafe (entry 12): one SYNC also where both players are added. -/
def applyRoute (st : Station) (old new : Pair Bool) (s : State) : State :=
  if st = s.tables.renderer then s
  else
    let t := dropRoute st .p2 old new (dropRoute st .p1 old new s)
    if routeGained old new then placeSync st t else t

/-- Writes a station's route mask (R114). -/
def setRoute (st : Station) (new : Pair Bool) (s : State) : State :=
  applyRoute st (s.tables.routes.get st) new (s.modTables fun t => { t with routes := t.routes.set st new })

/-- Names the renderer station: a newly named one loses its waiting entries (R128). -/
def setRenderer (st : Station) (s : State) : State :=
  if st = s.tables.renderer then s else setWaiting st [] (s.modTables fun t => { t with renderer := st })

/-- A queue is flushed, its in-flight entry included (R127). -/
def flushQueue (st : Station) (s : State) : State :=
  s.modStation st fun x => { x with waiting := [], delivery := none }

end Sys2Proof.Machine
end

