-- ==== Sys2Proof/Machine/Shaping.lean ====
section
/-!
DEFINITION. The shaping unit: pressure, n, curves, smoothing, scaling, bend and the fold (R31 to R44), and the level
and bend reports it makes for the voices of a note (R37, R39, R41). Exact integer arithmetic throughout.
-/
namespace Sys2Proof.Machine

open Sys2Proof

/-- Stage 1: raw breath less the offset, never below 0 (R31). -/
def pressure (raw offset : Nat) : Nat := raw - offset

/-- Stage 2: pressure scaled by the gain and limited to 4095 (R32). -/
def normalize (p gain : Nat) : Nat := min 4095 (p * gain / 256)

/-- The segment of a curve that n lies in: floor(n / 512), at most 7 because n is at most 4095 (R33). -/
def curveSegment (n : Nat) : Fin 8 := ⟨min 7 (n / 512), by omega⟩

/-- The interpolated part of stage 3: floor((d × f + 256) / 512) (R33). -/
def interpolate (d f : Int) : Int := Int.fdiv (d * f + 256) 512

/-- Stage 3: the value of a curve at n (R33). -/
def curveValue (c : Curve) (n : Nat) : Nat :=
  let i := curveSegment n
  let y0 : Int := c.get i.castSucc
  let y1 : Int := c.get i.succ
  (y0 + interpolate (y1 - y0) ((n : Int) - 512 * i.val)).toNat

/-- The smoothing step for a difference: trunc(δ × k / 16), at least one count toward the target (R36). -/
def smoothStep (d : Int) (k : Nat) : Int :=
  let step := Int.tdiv (d * k) 16
  if step = 0 then Int.sign d else step

/-- Stage 4: the smoothing state after one sweep (R36). -/
def smooth (s target k : Nat) : Nat := ((s : Int) + smoothStep ((target : Int) - s) k).toNat

/-- Stage 5: the level of a smoothing state at a scale (R38). -/
def scaleLevel (s scale : Nat) : Nat := (s * scale + 128) / 256

/-- Stage 6: whether a new level is reported (R39). -/
def levelReported (level last deadBand : Nat) : Bool :=
  decide (deadBand ≤ ((level : Int) - last).natAbs) || ((level == 0 || level == 1023) && level != last)

/-- The bend of a lip sample (R40). -/
def bendOf (raw centre deadzone depth : Nat) : Int :=
  let dl : Int := (raw : Int) - centre
  if dl.natAbs ≤ deadzone then 0
  else
    let dl' : Int := if 0 < dl then dl - deadzone else dl + deadzone
    max (-200) (min 200 (Int.tdiv (dl' * depth) 256))

/-- Whether a bend is reported (R41). -/
def bendReported (bend last : Int) : Bool :=
  decide (2 ≤ (bend - last).natAbs) || ((bend == 0 || bend == 200 || bend == -200) && bend != last)

/-- The fold into 0–127 by twelves: below 0 it lands in 0–11, above 127 in 116–127 (R42). DEDUCED, unsafe (entry 24):
a worked case of 03 folds 187 to 115, against this rule; the rule is followed. -/
def foldPitch (x : Int) : Nat :=
  if x < 0 then (x % 12).toNat else if 127 < x then (116 + (x - 116) % 12).toNat else x.toNat

/-- The base pitch of a note (R43). -/
def basePitch (resolved : Nat) (octave transpose : Int) : Nat := foldPitch (resolved + 12 * octave + transpose)

/-- The pitch of a layer's voice, from the folded base (R43). -/
def layerPitch (base : Nat) (interval : Int) : Nat := foldPitch (base + interval)

/-- The layer's window admits the base pitch (R44). -/
def Layer.admits (y : Layer) (base : Nat) : Bool := decide (y.low ≤ base) && decide (base ≤ y.high)

/-- The layer sounds for this base pitch: it is present and its window admits it (R68, R73). -/
def Layer.sounds (y : Layer) (base : Nat) : Bool := y.present && y.admits base

/-- The n that a breath sample gives a player; a faulted channel gives 0 (R14, R30). -/
def breathN (q : PlayerState) (x : Settings) (raw : Sample) : Nat :=
  if q.breath.state = .fault then 0 else normalize (pressure raw.toNat q.offset) x.gain

/-- The bend that a lip sample gives a player; a faulted channel gives 0 (R14, R30). -/
def lipBend (q : PlayerState) (x : Settings) (raw : Sample) : Int :=
  if q.lip.state = .fault then 0 else bendOf raw.toNat q.centre x.deadzone x.bendDepth

/-- Stages 3 to 5 on a voice's record (R33, R36, R38). -/
def Voice.shaped (x : Voice) (c : Curve) (n k : Nat) : Voice :=
  let s' := smooth x.s (curveValue c n) k
  { x with s := s', level := scaleLevel s' x.scale }

/-- The level is reported: it becomes the last reported level and a LEVEL is issued (R39). -/
def reportLevel (v : VoiceNo) (deadBand : Nat) (s : State) : State :=
  let x := s.voice v
  if levelReported x.level x.lastLevel deadBand then
    issue v (.level x.level) (s.modVoice v fun y => { y with lastLevel := y.level })
  else s

/-- Stages 3 to 6 for one voice of player `p` (R30, step 3). -/
def shapeVoice (p : Player) (v : VoiceNo) (s : State) : State :=
  reportLevel v (s.settings p).deadBand
    (s.modVoice v fun x => x.shaped (s.tables.curves.get x.curve) (s.player p).n (s.settings p).k)

/-- The incarnation in a layer slot of player `p`'s note record, if there is one (R66). -/
def State.slot (s : State) (p : Player) (L : LayerNo) : Option Incarnation :=
  (s.player p).note.bind fun r => r.slots.get L

/-- Does something for each voice named in player `p`'s note record, in layer order 0 to 3. -/
def forEachSlot (p : Player) (f : VoiceNo → State → State) (s : State) : State :=
  (upTo 4).foldl (fun t L => match t.slot p L with | some i => f i.voice t | none => t) s

/-- Stages 3 to 6 for each voice of the note record as it stands (R30 step 3, R37). -/
def shapeVoices (p : Player) (s : State) : State := forEachSlot p (shapeVoice p) s

/-- One voice's part of a bend report: its bend field takes the current bend, and a PITCH carries its recorded pitch
unchanged (R41). -/
def bendVoice (bend : Int) (v : VoiceNo) (s : State) : State :=
  issue v (.pitch (s.voice v).pitch bend) (s.modVoice v fun x => { x with bend := bend })

/-- Bend reporting for a SOUNDING player (R30 step 4, R41). -/
def reportBend (p : Player) (s : State) : State :=
  let q := s.player p
  if q.art = .sounding ∧ bendReported q.bend q.lastBend then
    (forEachSlot p (bendVoice q.bend) s).modPlayer p fun x => { x with lastBend := q.bend }
  else s

end Sys2Proof.Machine
end

