-- ==== Sys2Proof/Machine/Pool.lean ====
section
/-!
DEFINITION. The voice pool: START (R90), allocation (R91 to R95), hold and release (R96, R97), the return wait (R98 to
R103), cuts (R105 to R107), and RECLAIM.
-/
namespace Sys2Proof.Machine

open Sys2Proof

/-- What the articulation controller supplies for a START, with the layer's copied fields (R69, R74, R90). -/
structure StartContents where
  pitch : Nat
  bend : Int
  program : Byte
  curve : Fin 4
  scale : Nat
deriving DecidableEq, Repr

/-- A voice's record after its START: the next generation, ACTIVE for the player and layer, and the level taken afresh
from the curve value `target` (R35, R89, R90). -/
def Voice.started (x : Voice) (p : Player) (L : LayerNo) (c : StartContents) (target : Nat) : Voice where
  state := .active
  gen := x.gen + 1
  player := p
  layer := L
  pitch := c.pitch
  bend := c.bend
  level := scaleLevel target c.scale
  program := c.program
  curve := c.curve
  scale := c.scale
  s := target
  lastLevel := scaleLevel target c.scale
  releaseTaken := false
  timer := none
  use := x.use + 1

/-- A START of voice `v` for player `p` and layer `L` (R90). -/
def startVoice (p : Player) (L : LayerNo) (c : StartContents) (v : VoiceNo) (s : State) : State :=
  let target := curveValue (s.tables.curves.get c.curve) (s.player p).n
  let t := s.modVoice v fun x => x.started p L c target
  issue v (.start L c.pitch c.bend (scaleLevel target c.scale) c.program)
    { t with startOrder := t.startOrder.erase v ++ [v] }

/-- A note record's slots with the given voice's slot made absent (R78). -/
def NoteRecord.without (v : VoiceNo) (r : NoteRecord) : NoteRecord :=
  { r with slots := r.slots.map fun x => if x.map Incarnation.voice = some v then none else x }

/-- Ends the present incarnation of a voice: its owner's slot becomes absent if it is ACTIVE, it is cut in each queue
that receives its events, its return timer stops and it leaves the start-order list (R95 steps 1 and 2, R105). -/
def endIncarnation (v : VoiceNo) (s : State) : State :=
  let x := s.voice v
  let s1 := if x.state = .active then s.modPlayer x.player fun q => { q with note := q.note.map (NoteRecord.without v) } else s
  let s2 := issue v .cut s1
  let s3 := s2.modVoice v fun y => { y with releaseTaken := false, timer := none }
  { s3 with startOrder := s3.startOrder.erase v }

/-- A voice becomes FREE and joins the free list at its tail, keeping its other fields (R86, R87). -/
def freeVoice (v : VoiceNo) (s : State) : State :=
  let t := s.modVoice v fun x => { x with state := .free }
  { t with freeList := t.freeList ++ [v] }

/-- A cut of a voice; one that is FREE already is passed over (R105). -/
def cutVoice (v : VoiceNo) (s : State) : State :=
  if (s.voice v).state = .free then s else freeVoice v (endIncarnation v s)

/-- A player's count: its ACTIVE and HELD voices (R92). -/
def State.count (s : State) (p : Player) : Nat :=
  ((upTo 32).filter fun v =>
    decide ((s.voice v).player = p) && (decide ((s.voice v).state = .active) || decide ((s.voice v).state = .held))).length

/-- The other player's voices are open to `p`'s allocation: its count exceeds its reserve (R92, R93). -/
def State.overReserve (s : State) (q : Player) : Bool := decide ((s.settings q).reserve < s.count q)

/-- The note record of `p` names voice `v` (R93). -/
def State.ownVoice (s : State) (p : Player) (v : VoiceNo) : Bool :=
  (upTo 4).any fun L => decide ((s.slot p L).map Incarnation.voice = some v)

/-- Category 1: a RELEASING voice of either player (R93). -/
def State.victim1 (s : State) (p : Player) (v : VoiceNo) : Bool :=
  decide ((s.voice v).state = .releasing) && !s.ownVoice p v

/-- Category 2: a HELD voice of `p`, or of the other player over its reserve (R93). -/
def State.victim2 (s : State) (p : Player) (v : VoiceNo) : Bool :=
  decide ((s.voice v).state = .held) && !s.ownVoice p v &&
    (decide ((s.voice v).player = p) || s.overReserve p.other)

/-- Category 3 at one layer: an ACTIVE voice of the other player over its reserve (R93). -/
def State.victim3 (s : State) (p : Player) (L : LayerNo) (v : VoiceNo) : Bool :=
  decide ((s.voice v).state = .active) && !s.ownVoice p v && decide ((s.voice v).player = p.other) &&
    decide ((s.voice v).layer = L) && s.overReserve p.other

/-- The victim search over the start-order list, oldest first; category 3 takes the highest layer (R93). -/
def State.victim (s : State) (p : Player) : Option VoiceNo :=
  (s.startOrder.find? (s.victim1 p)).or <|
  (s.startOrder.find? (s.victim2 p)).or <|
  (s.startOrder.find? (s.victim3 p 3)).or <|
  (s.startOrder.find? (s.victim3 p 2)).or <|
  (s.startOrder.find? (s.victim3 p 1)).or <|
  s.startOrder.find? (s.victim3 p 0)

/-- Writes the started incarnation of voice `v` into the layer's slot (R90 step 6). -/
def fillSlot (p : Player) (L : LayerNo) (v : VoiceNo) (s : State) : State :=
  s.modPlayer p fun q =>
    { q with note := q.note.map fun r => { r with slots := r.slots.set L (some ⟨v, (s.voice v).gen⟩) } }

/-- The layer is dropped (R94). -/
def dropLayer (s : State) : State :=
  broadcast .layerDropped (s.modCounters fun c => { c with droppedLayers := countUp c.droppedLayers })

/-- A steal of voice `v` for player `p` and layer `L` (R95). -/
def stealVoice (p : Player) (L : LayerNo) (c : StartContents) (v : VoiceNo) (s : State) : State :=
  broadcast .steal
    ((startVoice p L c v (endIncarnation v s)).modCounters fun k => { k with steals := countUp k.steals })

/-- A request for a voice: the free-list head, a victim, or the layer is dropped (R91). -/
def allocate (p : Player) (L : LayerNo) (c : StartContents) (s : State) : State :=
  match s.freeList with
  | v :: rest => fillSlot p L v (startVoice p L c v { s with freeList := rest })
  | [] =>
    match s.victim p with
    | some v => fillSlot p L v (stealVoice p L c v s)
    | none => dropLayer s

/-- An ACTIVE voice of a note released under hold becomes HELD; nothing is issued (R96). -/
def holdVoice (v : VoiceNo) (s : State) : State :=
  if (s.voice v).state = .active then s.modVoice v fun x => { x with state := .held } else s

/-- A RELEASE of an ACTIVE or HELD voice; any other is left (R97). -/
def releaseVoice (v : VoiceNo) (s : State) : State :=
  if (s.voice v).state = .active ∨ (s.voice v).state = .held then
    issue v .release (s.modVoice v fun x => { x with state := .releasing, releaseTaken := false })
  else s

/-- A RELEASE of every ACTIVE and HELD voice that `which` picks, in start order (R72, R79, R82, R88). -/
def releaseGroup (which : Voice → Bool) (s : State) : State :=
  s.startOrder.foldl (fun t v => if which (t.voice v) then releaseVoice v t else t) s

/-- A cut of every voice that is not FREE, in start order (R106, R107). -/
def cutAll (s : State) : State := s.startOrder.foldl (fun t v => cutVoice v t) s

/-- The return timeout standing in the part settings, in bit times (R99). -/
def State.returnTimeout (s : State) : Nat := s.tables.returnSteps * Config.msPerReturnStep * Config.bitsPerMs

/-- The renderer has taken the RELEASE entry of an incarnation: release-taken is set and the return timer starts, if the
voice is still RELEASING with that generation (R98, R122). DEDUCED, unsafe (entry 29): it must still be the use of the
voice that the entry was appended for; where generations have wrapped, R122's test alone would not tell. -/
def releaseTaken (i : Incarnation) (use : Nat) (s : State) : State :=
  let x := s.voice i.voice
  if x.state = .releasing ∧ x.gen = i.gen ∧ x.use = use ∧ x.releaseTaken = false then
    s.modVoice i.voice fun y => { y with releaseTaken := true, timer := some s.returnTimeout }
  else s

/-- The classes of a return (R100). -/
inductive ReturnClass where
  | stale
  | late
  | early
  | accepted
deriving DecidableEq, Repr

/-- How a return that names generation `g` is classified against a voice's record (R100). -/
def classifyReturn (x : Voice) (g : BitVec 4) : ReturnClass :=
  if g ≠ x.gen then .stale
  else
    match x.state with
    | .free => .late
    | .active => .early
    | .held => .early
    | .releasing => if x.releaseTaken then .accepted else .early

/-- The counter of a discarded return's class advances (R101). -/
def countReturn (r : ReturnClass) (c : Counters) : Counters :=
  match r with
  | .stale => { c with staleReturns := countUp c.staleReturns }
  | .late => { c with lateReturns := countUp c.lateReturns }
  | .early => { c with earlyReturns := countUp c.earlyReturns }
  | .accepted => c

/-- An accepted return frees the voice (R102). -/
def acceptReturn (v : VoiceNo) (s : State) : State :=
  let t := s.modVoice v fun x => { x with releaseTaken := false, timer := none }
  freeVoice v { t with startOrder := t.startOrder.erase v }

/-- A return handed to the pool (R100 to R102). -/
def takeReturn (v : VoiceNo) (g : BitVec 4) (s : State) : State :=
  match classifyReturn (s.voice v) g with
  | .accepted => acceptReturn v s
  | .stale => broadcast .badReturn (s.modCounters (countReturn .stale))
  | .late => broadcast .badReturn (s.modCounters (countReturn .late))
  | .early => broadcast .badReturn (s.modCounters (countReturn .early))

/-- A voice whose return timer has run out is reclaimed (R103). -/
def reclaimVoice (v : VoiceNo) (s : State) : State :=
  broadcast .reclaim ((cutVoice v s).modCounters fun c => { c with reclaims := countUp c.reclaims })

/-- The return timer of a RELEASING voice: no other voice's runs (R99). -/
def State.returnTimer (v : VoiceNo) (s : State) : Option Nat :=
  if (s.voice v).state = .releasing then (s.voice v).timer else none

/-- RECLAIM: the return timer of voice `v` runs out (R99, R103). -/
def execReclaim (v : VoiceNo) (s : State) : Host.Outcome State Fault Refusal :=
  .next (unlessHeld (atExpiry (State.returnTimer v) (reclaimVoice v)) s)

end Sys2Proof.Machine
end

