-- ==== Sys2Proof/Machine/Resolver.lean ====
section
/-!
DEFINITION. Resolution of a fingering word for a chart (R51 to R53).
-/
namespace Sys2Proof.Machine

open Sys2Proof

/-- The number of keys a care mask names (chapter 4). -/
def specificity (care : BitVec 24) : Nat := ((List.range 24).filter fun k => care.getLsbD k).length

/-- The entry is a candidate for word `w` and chart `c` (R51). -/
def TableEntry.candidate (e : TableEntry) (c : Fin 4) (w : BitVec 24) : Bool :=
  e.valid && decide (e.chart = c) && decide (w &&& e.care = e.pattern)

/-- Between the best candidate so far and a later entry: the later one wins only by greater specificity (R52). -/
def betterEntry (t : Tab TableEntry 192) (c : Fin 4) (w : BitVec 24) (best : Option EntryNo) (i : EntryNo) :
    Option EntryNo :=
  if (t.get i).candidate c w then
    match best with
    | none => some i
    | some j => if specificity (t.get j).care < specificity (t.get i).care then some i else best
  else best

/-- The winner of a word and chart (R52). -/
def winner (t : Tab TableEntry 192) (c : Fin 4) (w : BitVec 24) : Option EntryNo :=
  (upTo 192).foldl (betterEntry t c w) none

/-- The pitch a resolution takes without a candidate: `keep` is the note resolved pitch of a SOUNDING player, none
otherwise (R53). -/
def fallbackPitch (x : Chart) (keep : Option Nat) : Nat :=
  match x.fallback, keep with
  | .hold, some r => r
  | .hold, none => x.base
  | .base, _ => x.base

/-- The pitch of a resolution whose source is known (R52, R53). -/
def resolvedPitch (t : Tables) (c : Fin 4) (keep : Option Nat) : Option EntryNo → Nat
  | some i => (t.entries.get i).pitch
  | none => fallbackPitch (t.charts.get c) keep

/-- The specificity a resolution answers: 0 for FALLBACK (R64). -/
def sourceSpecificity (t : Tables) : Option EntryNo → Nat
  | some i => specificity (t.entries.get i).care
  | none => 0

/-- What `keep` is for a player: its note resolved pitch while it is SOUNDING (R53). -/
def PlayerState.keepPitch (q : PlayerState) : Option Nat := if q.art = .sounding then some q.resolved else none

end Sys2Proof.Machine
end

