-- ==== Sys2Proof/Machine/Articulation.lean ====
section
/-!
DEFINITION. The articulation controller and the resolver's work on a player: attack (R68), release (R70, R71), pitch
changes (R73 to R75), the settle timer (R56 to R61), the group codes (R79, R80), enable and disable (R82, R83).
-/
namespace Sys2Proof.Machine

open Sys2Proof

/-- The renderer station is present: the controller asks for voices only then (R77). -/
def State.rendererPresent (s : State) : Bool := s.present s.tables.renderer

/-- The contents of a START for a layer of player `p` at a base pitch. The bend is the last reported bend, which an
attack has just set to the current one (R41, R69, R74). -/
def startContents (s : State) (p : Player) (y : Layer) (base : Nat) : StartContents where
  pitch := layerPitch base y.interval
  bend := (s.player p).lastBend
  program := y.program
  curve := y.curve
  scale := y.scale

/-- Asks for a voice for layer `L` of player `p`'s note, if the layer sounds at the base pitch and the renderer is
present (R68 step 3, R77). -/
def askLayer (p : Player) (base : Nat) (L : LayerNo) (s : State) : State :=
  let y := s.layer p L
  if s.rendererPresent ∧ y.sounds base then allocate p L (startContents s p y base) s else s

/-- Builds a note layer by layer (R68 step 3). -/
def buildNote (p : Player) (base : Nat) (s : State) : State :=
  (upTo 4).foldl (fun t L => askLayer p base L t) s

/-- The source of the resolution of player `p`'s current word (R51, R52). -/
def State.playerSource (s : State) (p : Player) : Option EntryNo :=
  winner s.tables.entries (s.settings p).chart (s.player p).word

/-- The resolved pitch of player `p`'s current word (R52, R53). -/
def State.playerResolved (s : State) (p : Player) : Nat :=
  resolvedPitch s.tables (s.settings p).chart (s.player p).keepPitch (s.playerSource p)

/-- The base pitch of player `p`'s resolution (R43, R54). -/
def State.playerBase (s : State) (p : Player) : Nat :=
  basePitch (s.playerResolved p) (s.player p).octave (s.settings p).transpose

/-- The player's state at an attack's step 2: SOUNDING with a note record of four absent slots, the note resolved pitch
set, the settle timer stopped and the last reported bend at the current bend (R54, R55, R60, R68). -/
def beginNote (p : Player) (s : State) : State :=
  s.modPlayer p fun q =>
    { q with
      art := .sounding
      note := some { base := s.playerBase p, source := s.playerSource p, slots := Tab.const 4 none }
      settle := none
      resolved := s.playerResolved p
      lastBend := q.bend }

/-- An attack (R68). -/
def attack (p : Player) (s : State) : State := buildNote p (s.playerBase p) (beginNote p s)

/-- A player leaves SOUNDING: its note record is dropped and its settle timer stopped (R61, R66). -/
def dropNote (p : Player) (a : ArtState) (s : State) : State :=
  s.modPlayer p fun q => { q with art := a, note := none, settle := none }

/-- A release, under the hold state the scanner holds (R70, R71). -/
def releaseNote (p : Player) (s : State) : State :=
  dropNote p .silent (forEachSlot p (if (s.player p).held then holdVoice else releaseVoice) s)

/-- A layer slot becomes absent. -/
def clearSlot (p : Player) (L : LayerNo) (s : State) : State :=
  s.modPlayer p fun q => { q with note := q.note.map fun r => { r with slots := r.slots.set L none } }

/-- Releases the voice of a layer slot and makes the slot absent (R73, R75). -/
def releaseSlot (p : Player) (L : LayerNo) (s : State) : State :=
  match s.slot p L with
  | some i => clearSlot p L (releaseVoice i.voice s)
  | none => s

/-- A retuning PITCH, when the layer pitch differs from the voice's recorded pitch (R73). -/
def retune (p : Player) (v : VoiceNo) (pitch : Nat) (s : State) : State :=
  if (s.voice v).pitch = pitch then s
  else issue v (.pitch pitch (s.player p).lastBend) (s.modVoice v fun x => { x with pitch := pitch })

/-- One layer's work at a LEGATO pitch change (R73, R74). -/
def legatoLayer (p : Player) (base : Nat) (L : LayerNo) (s : State) : State :=
  match s.slot p L with
  | some i =>
    if (s.layer p L).sounds base then retune p i.voice (layerPitch base (s.layer p L).interval) s
    else releaseSlot p L s
  | none => askLayer p base L s

/-- The new base pitch is written into the note record (R73, R75). -/
def writeBase (p : Player) (base : Nat) (s : State) : State :=
  s.modPlayer p fun q => { q with note := q.note.map fun r => { r with base := base } }

/-- A pitch change in LEGATO mode (R73). -/
def pitchChangeLegato (p : Player) (base : Nat) (s : State) : State :=
  (upTo 4).foldl (fun t L => legatoLayer p base L t) (writeBase p base s)

/-- A pitch change in RETRIGGER mode; with the renderer ABSENT it writes the new base pitch only (R75, R77). -/
def pitchChangeRetrigger (p : Player) (base : Nat) (s : State) : State :=
  let t := writeBase p base s
  if t.rendererPresent then buildNote p base ((upTo 4).foldl (fun u L => releaseSlot p L u) t) else t

/-- A pitch change handed to the controller, in the player's mode (R73, R75). -/
def pitchChange (p : Player) (base : Nat) (s : State) : State :=
  match (s.settings p).mode with
  | .legato => pitchChangeLegato p base s
  | .retrigger => pitchChangeRetrigger p base s

/-- The note resolved pitch and the record's resolution source are written from a resolution, and the settle timer
stands stopped (R55, R58). -/
def noteResolution (p : Player) (s : State) : State :=
  s.modPlayer p fun q =>
    { q with
      settle := none
      resolved := s.playerResolved p
      note := q.note.map fun r => { r with source := s.playerSource p } }

/-- The resolver's work at a settle expiry or an immediate resolution: a pitch change is handed on when the base pitch
differs from the note's (R57, R58). -/
def resolveNote (p : Player) (s : State) : State :=
  let base := s.playerBase p
  let t := noteResolution p s
  match (s.player p).note with
  | some r => if base = r.base then t else pitchChange p base t
  | none => t

/-- A fingering change taken by the resolver: on a SOUNDING player it starts the settle timer, or resolves at once where
the window is 0; on any other it does nothing (R56, R57, R60). -/
def fingeringChange (p : Player) (s : State) : State :=
  if (s.player p).art = .sounding then
    if (s.settings p).settleMs = 0 then resolveNote p s
    else s.modPlayer p fun q => { q with settle := some ((s.settings p).settleMs * Config.bitsPerMs) }
  else s

/-- A hold released: every HELD voice of the player gets RELEASE in start order (R72). -/
def holdReleased (p : Player) (s : State) : State :=
  releaseGroup (fun x => decide (x.player = p) && decide (x.state = .held)) s

/-- A player that is SOUNDING goes to QUIET (R79, R80). -/
def quietPlayer (p : Player) (s : State) : State :=
  if (s.player p).art = .sounding then dropNote p .quiet s else s

/-- Every SOUNDING player goes to QUIET (R79, R80). -/
def quietPlayers (s : State) : State := quietPlayer .p2 (quietPlayer .p1 s)

/-- A confirmed RELEASE-ALL (R79). -/
def releaseAll (s : State) : State := quietPlayers (releaseGroup (fun _ => true) s)

/-- A confirmed CUT-ALL (R80, R106). -/
def cutAllCode (s : State) : State := quietPlayers (cutAll s)

/-- A renderer loss, once the renderer's queue is flushed and its code ABSENT (R80, R107). -/
def rendererLoss (s : State) : State := quietPlayers (broadcast .rendererLost (cutAll s))

/-- A disable at the articulation controller (R82). -/
def disableNote (p : Player) (s : State) : State :=
  dropNote p .disabled (releaseGroup (fun x => decide (x.player = p)) s)

/-- An enable: the player enters WARMUP from count 0 and its take-over mark is set (R4, R24, R83). -/
def enablePlayer (p : Player) (s : State) : State :=
  s.modPlayer p fun q => { q with art := .warmup, warmup := 0, takeOver := true }

end Sys2Proof.Machine
end

