-- ==== Sys2Proof/Machine/Operands.lean ====
section
/-!
DEFINITION. What the operands of commands stand for: sensor inputs and matrix positions, the ranges and clamps of
request fields (R151), and the way back from stored fields to bytes.
-/
namespace Sys2Proof

open Machine

/-- `v` in proportion to `full`, as a count of 0 to 4095: full scale from `full` up, 0 from 0 down, and between them
4095 · v / full, brought to the next count up or down where it falls between two. -/
def proportion (full : Nat) (roundUp : Bool) (v : Int) : Int :=
  if full ≤ v then 4095
  else if v ≤ 0 then 0
  else if roundUp then (4095 * v + (full - 1)) / full
  else 4095 * v / full

/-- The raw sample of a sensor input against the reference `vref`, both in microvolts (R177). DESIGN CHOICE, safe
(entry 1): the rule does not say how the proportion is rounded, so an operand does. -/
def SensorInput.sample (vref : Nat) (roundUp : Bool) : SensorInput → Sample
  | .voltage v => BitVec.ofInt 12 (proportion vref roundUp v)
  | .unconnected => 0

/-- The raw breath and lip samples of a player's mouthpiece. -/
def Mouthpiece.samples (vref : Nat) (roundUp : Bool × Bool) (m : Mouthpiece) : Sample × Sample :=
  (m.breath.sample vref roundUp.1, m.lip.sample vref roundUp.2)

end Sys2Proof

namespace Sys2Proof.Machine

open Sys2Proof

/-- The 31 used positions of a matrix reading, drive line d and sense line i in bit 4·d + i, 1 where the sense line read
low: keys 0–23, contacts 1–6, hold. KD7 with sense 3, bit 31, is discarded (R178). DESIGN CHOICE, safe (entry 2): the
place of a position in the operand. -/
def matrixInputs (m : BitVec 32) : BitVec 31 := m.setWidth 31

/-! ### Ranges and clamps (R151) -/

/-- The nearest value of `lo` to `hi`. -/
def clampNat (lo hi x : Nat) : Nat := max lo (min hi x)

/-- The nearest value of `lo` to `hi`, signed. -/
def clampInt (lo hi x : Int) : Int := max lo (min hi x)

/-- A yes/no field: 0 is no, and what is out of range becomes 1, yes. -/
def yes (b : Byte) : Bool := b != 0

/-- A yes/no, fallback or mode field out of range. -/
def overOne (b : Byte) : Bool := decide (1 < b.toNat)

/-- An index field at the load: what is out of range becomes the highest index (R171). -/
def indexOf (top : Nat) (b : Byte) : Fin (top + 1) := ⟨min top b.toNat, by omega⟩

/-- An index field is out of range (R150, check 6). -/
def overIndex (top : Nat) (b : Byte) : Bool := decide (top < b.toNat)

/-- The player that a player field names: 1 or 2 (R150). -/
def playerOf (b : Byte) : Option Player := if b = 1 then some .p1 else if b = 2 then some .p2 else none

/-- A field's value changed by its clamp. -/
def changedNat (lo hi : Nat) (x : Nat) : Bool := decide (clampNat lo hi x ≠ x)

/-- A signed field's value changed by its clamp. -/
def changedInt (lo hi : Int) (x : Int) : Bool := decide (clampInt lo hi x ≠ x)

end Sys2Proof.Machine

namespace Sys2Proof

open Machine

/-- An entry as stored: pitch clamped, pattern normalized within the care mask (R48, R151). -/
def RawEntry.stored (e : RawEntry) : TableEntry where
  valid := yes e.valid
  chart := indexOf 3 e.chart
  care := e.care
  pattern := e.pattern &&& e.care
  pitch := clampNat 0 127 e.pitch.toNat

/-- A field of the entry was clamped; normalization is no clamp (R48). -/
def RawEntry.clamped (e : RawEntry) : Bool := overOne e.valid || changedNat 0 127 e.pitch.toNat

end Sys2Proof

namespace Sys2Proof.Machine

open Sys2Proof

/-- The fallback that a fallback field names (R148, R151). -/
def fallbackOf (b : Byte) : Fallback := if b = 0 then .hold else .base

/-- The mode that a mode field names (R148, R151). -/
def modeOf (b : Byte) : Mode := if b = 0 then .legato else .retrigger

/-- A chart as stored (R50). -/
def chartOf (fallback base : Byte) : Chart := { fallback := fallbackOf fallback, base := clampNat 0 127 base.toNat }

/-- A field of the chart was clamped. -/
def chartClamped (fallback base : Byte) : Bool := overOne fallback || changedNat 0 127 base.toNat

end Sys2Proof.Machine

namespace Sys2Proof

open Machine

/-- A layer as stored (R151, R154). -/
def RawLayer.stored (y : RawLayer) : Layer where
  present := yes y.present
  interval := clampInt (-36) 36 y.interval.toInt
  scale := clampNat 0 256 y.scale.toNat
  curve := indexOf 3 y.curve
  program := y.program
  low := clampNat 0 127 y.low.toNat
  high := clampNat 0 127 y.high.toNat

/-- A field of the layer was clamped. -/
def RawLayer.clamped (y : RawLayer) : Bool :=
  overOne y.present || changedInt (-36) 36 y.interval.toInt || changedNat 0 256 y.scale.toNat ||
    changedNat 0 127 y.low.toNat || changedNat 0 127 y.high.toNat

end Sys2Proof

namespace Sys2Proof.Machine

open Sys2Proof

/-- A curve as stored (R151). -/
def curveOf (c : RawCurve) : Curve := c.map fun y => clampNat 0 1023 y.toNat

/-- A point of the curve was clamped. -/
def curveClamped (c : RawCurve) : Bool := c.list.any fun y => changedNat 0 1023 y.toNat

end Sys2Proof.Machine

namespace Sys2Proof

open Machine

/-- The on-threshold as stored (R151). -/
def RawSettings.on (x : RawSettings) : Nat := clampNat 1 4095 x.onThreshold.toNat

/-- A player's settings as stored; the off-threshold is held below the clamped on-threshold (R151). -/
def RawSettings.stored (x : RawSettings) : Settings where
  enabled := yes x.enabled
  captureOnEnable := yes x.captureOnEnable
  chart := indexOf 3 x.chart
  layerSet := indexOf 7 x.layerSet
  transpose := clampInt (-24) 24 x.transpose.toInt
  settleMs := clampNat 0 30 x.settleMs.toNat
  gain := clampNat 0 1023 x.gain.toNat
  onThreshold := x.on
  offThreshold := clampNat 0 (x.on - 1) x.offThreshold.toNat
  k := clampNat 1 16 x.k.toNat
  deadBand := clampNat 1 64 x.deadBand.toNat
  mode := modeOf x.mode
  bendDepth := x.bendDepth.toNat
  deadzone := clampNat 0 511 x.deadzone.toNat
  drift := yes x.drift
  reserve := clampNat 0 16 x.reserve.toNat

/-- A setting of the player was clamped. -/
def RawSettings.clamped (x : RawSettings) : Bool :=
  overOne x.enabled || overOne x.captureOnEnable || changedInt (-24) 24 x.transpose.toInt ||
    changedNat 0 30 x.settleMs.toNat || changedNat 0 1023 x.gain.toNat || changedNat 1 4095 x.onThreshold.toNat ||
    changedNat 0 (x.on - 1) x.offThreshold.toNat || changedNat 1 16 x.k.toNat || changedNat 1 64 x.deadBand.toNat ||
    overOne x.mode || changedNat 0 511 x.deadzone.toNat || overOne x.drift || changedNat 0 16 x.reserve.toNat

end Sys2Proof

namespace Sys2Proof.Machine

open Sys2Proof

/-- A calibration value as stored (R6, R151). -/
def calibrationOf (w : BitVec 16) : Nat := clampNat 0 4095 w.toNat

end Sys2Proof.Machine

namespace Sys2Proof

open Machine

/-- A calibration value was clamped. -/
def RawCalibration.clamped (c : RawCalibration) : Bool :=
  changedNat 0 4095 c.offset.toNat || changedNat 0 4095 c.centre.toNat

end Sys2Proof

namespace Sys2Proof.Machine

open Sys2Proof

/-- The return timeout in steps as stored (R99, R151). -/
def stepsOf (b : Byte) : Nat := clampNat 1 50 b.toNat

/-- A route mask as stored: bit 0 player 1, bit 1 player 2, the higher bits cleared (R148, R151). -/
def routeOf (b : Byte) : Pair Bool := { p1 := b.getLsbD 0, p2 := b.getLsbD 1 }

/-- A route mask had higher bits. -/
def routeClamped (b : Byte) : Bool := decide (3 < b.toNat)

/-- A kind set as used: bits 14 and 15 cleared (R151). -/
def kindsOf (w : BitVec 16) : BitVec 14 := w.setWidth 14

/-- A kind set had bits 14 or 15. -/
def kindsClamped (w : BitVec 16) : Bool := w.getLsbD 14 || w.getLsbD 15

/-! ### Stored fields as bytes (R148) -/

/-- A one-byte unsigned field. -/
def byteOfNat (x : Nat) : Byte := BitVec.ofNat 8 x

/-- A one-byte signed field. -/
def byteOfInt (x : Int) : Byte := BitVec.ofInt 8 x

/-- A two-byte unsigned field. -/
def bytesOfNat (x : Nat) : List Byte := twoBytes (BitVec.ofNat 16 x)

/-- A two-byte signed field. -/
def bytesOfInt (x : Int) : List Byte := twoBytes (BitVec.ofInt 16 x)

/-- A yes/no field. -/
def byteOfBool (b : Bool) : Byte := if b then 1 else 0

/-- An entry's fields. -/
def TableEntry.raw (e : TableEntry) : RawEntry where
  valid := byteOfBool e.valid
  chart := byteOfNat e.chart.val
  care := e.care
  pattern := e.pattern
  pitch := byteOfNat e.pitch

/-- A fallback field. -/
def Fallback.byte : Fallback → Byte
  | .hold => 0
  | .base => 1

/-- A mode field. -/
def Mode.byte : Mode → Byte
  | .legato => 0
  | .retrigger => 1

/-- A chart's two fields. -/
def Chart.bytes (c : Chart) : List Byte := [c.fallback.byte, byteOfNat c.base]

/-- A layer's fields. -/
def Layer.raw (y : Layer) : RawLayer where
  present := byteOfBool y.present
  interval := byteOfInt y.interval
  scale := BitVec.ofNat 16 y.scale
  curve := byteOfNat y.curve.val
  program := y.program
  low := byteOfNat y.low
  high := byteOfNat y.high

/-- A curve's points. -/
def Curve.raw (c : Curve) : RawCurve := c.map fun y => BitVec.ofNat 16 y

/-- A player's settings. -/
def Settings.raw (x : Settings) : RawSettings where
  enabled := byteOfBool x.enabled
  captureOnEnable := byteOfBool x.captureOnEnable
  chart := byteOfNat x.chart.val
  layerSet := byteOfNat x.layerSet.val
  transpose := byteOfInt x.transpose
  settleMs := byteOfNat x.settleMs
  gain := BitVec.ofNat 16 x.gain
  onThreshold := BitVec.ofNat 16 x.onThreshold
  offThreshold := BitVec.ofNat 16 x.offThreshold
  k := byteOfNat x.k
  deadBand := byteOfNat x.deadBand
  mode := x.mode.byte
  bendDepth := byteOfNat x.bendDepth
  deadzone := BitVec.ofNat 16 x.deadzone
  drift := byteOfBool x.drift
  reserve := byteOfNat x.reserve

/-- A player's calibration values. -/
def PlayerState.calibration (x : PlayerState) : RawCalibration where
  offset := BitVec.ofNat 16 x.offset
  centre := BitVec.ofNat 16 x.centre

/-- A route mask. -/
def routeByte (r : Pair Bool) : Byte := byteOfBool r.p1 ||| (byteOfBool r.p2 <<< 1)

/-- A resolution source: FFh for FALLBACK (R148). -/
def sourceByte : Option EntryNo → Byte
  | none => 0xFF
  | some i => byteOfNat i.val

end Sys2Proof.Machine
end

