-- ==== Sys2Proof/Machine/Keywork.lean ====
section
/-!
DEFINITION. The key scanner: the double look (R18), the fingering word, octave offset and hold state (R19 to R21), what
a scan hands on (R22 to R25), the scan commands, and SETTLE_EXPIRY (R58).
-/
namespace Sys2Proof.Machine

open Sys2Proof

/-- The inputs that confirm a change: they differ from the debounced state and their pending mark is set (R18). -/
def confirmed (debounced marks readings : BitVec 31) : BitVec 31 := (debounced ^^^ readings) &&& marks

/-- The pending marks after a look: set where a reading differs for the first time, clear elsewhere (R18). -/
def marksAfter (debounced marks readings : BitVec 31) : BitVec 31 := (debounced ^^^ readings) &&& ~~~marks

/-- The octave offset from the debounced octave contacts, by the highest closed one (R20). -/
def octaveOf (debounced : BitVec 31) : Int :=
  if debounced.getLsbD 29 then 3
  else if debounced.getLsbD 28 then 2
  else if debounced.getLsbD 27 then 1
  else if debounced.getLsbD 26 then -1
  else if debounced.getLsbD 25 then -2
  else if debounced.getLsbD 24 then -3
  else 0

/-- The player's word, offset and hold state formed from debounced states (R19 to R21). -/
def PlayerState.formed (debounced marks : BitVec 31) (q : PlayerState) : PlayerState :=
  { q with
    debounced := debounced
    marks := marks
    word := debounced.setWidth 24
    octave := octaveOf debounced
    held := debounced.getLsbD 30 }

/-- A player's inputs after a scan: by take-over directly, which clears the take-over mark, else by the double look
(R17, R18, R24). -/
def PlayerState.scanned (takeOver : Bool) (readings : BitVec 31) (q : PlayerState) : PlayerState :=
  if takeOver then { q.formed readings 0 with takeOver := false }
  else q.formed (q.debounced ^^^ confirmed q.debounced q.marks readings) (marksAfter q.debounced q.marks readings)

/-- The hand-on to the resolver, when the pair of word and offset changed (R22). -/
def handFingering (p : Player) (before : PlayerState) (s : State) : State :=
  if before.word = (s.player p).word ∧ before.octave = (s.player p).octave then s else fingeringChange p s

/-- The hand-on to the articulation controller, when the hold state changed: hold released acts, hold pressed changes
nothing at that moment (R22, R72). -/
def handHold (p : Player) (before : PlayerState) (s : State) : State :=
  if before.held ∧ ¬ (s.player p).held then holdReleased p s else s

/-- A scan's completion for one player. DESIGN CHOICE, safe (entry 3): `holdFirst` orders the two hand-ons, which R22 lets
go in either order. -/
def scanPlayer (p : Player) (w : Scan) (holdFirst : Bool) (s : State) : State :=
  let before := s.player p
  let t := s.modPlayer p (PlayerState.scanned (w.takeOver.get p) (w.readings.get p))
  if w.enabled.get p && !w.takeOver.get p then
    if holdFirst then handFingering p before (handHold p before t) else handHold p before (handFingering p before t)
  else t

/-- The scan in progress is over, and its drive lines rest. -/
def endScan (s : State) : State := { s with scan := none, pins := { s.pins with kd := restingDrives } }

/-- The completion of the scan in progress: player 1, then player 2 (R17). -/
def completeScan (holdFirst1 holdFirst2 : Bool) (s : State) : State :=
  match s.scan with
  | none => s
  | some w => scanPlayer .p2 w holdFirst2 (scanPlayer .p1 w holdFirst1 (endScan s))

/-- A scan as it starts: the readings, the players enabled at that moment and the take-overs it performs (R17, R24). -/
def newScan (s : State) (matrix1 matrix2 : BitVec 32) : Scan where
  readings := { p1 := matrixInputs matrix1, p2 := matrixInputs matrix2 }
  enabled := { p1 := (s.settings .p1).enabled, p2 := (s.settings .p2).enabled }
  takeOver := { p1 := (s.player .p1).takeOver, p2 := (s.player .p2).takeOver }

/-- What a scan drives on KD0–KD7, one value after another: KD0 low first, KD7 low last (R178). -/
def scanDrives : List (BitVec 8) := (List.range 8).map fun d => ~~~((1 : BitVec 8) <<< d)

/-- A scan starts and drives the lines (R17, R178). -/
def startScan (matrix1 matrix2 : BitVec 32) (s : State) : State :=
  { s with scan := some (newScan s matrix1 matrix2), pins := { s.pins with kd := scanDrives } }

/-- A disable at the key scanner: the take-over mark is cleared, and the scan in progress completes its double look for
the player and hands nothing on (R24, R25). DEDUCED, unsafe (entry 15): also where that scan was to perform the player's
take-over. -/
def disableScanner (p : Player) (s : State) : State :=
  let t := s.modPlayer p fun q => { q with takeOver := false }
  { t with
    scan := t.scan.map fun w => { w with enabled := w.enabled.set p false, takeOver := w.takeOver.set p false } }

/-- SCAN_START (R17, R178). DESIGN CHOICE, unsafe (entry 16): a start while a scan is in progress replaces it. -/
def execScanStart (matrix1 matrix2 : BitVec 32) (s : State) : Host.Outcome State Fault Refusal :=
  .next (unlessHeld (startScan matrix1 matrix2) s)

/-- SCAN_COMPLETION (R17, R22). -/
def execScanCompletion (holdFirst1 holdFirst2 : Bool) (s : State) : Host.Outcome State Fault Refusal :=
  .next (unlessHeld (completeScan holdFirst1 holdFirst2) s)

/-- The settle timer of a SOUNDING player: the resolver acts at no other player's (R58, R61). -/
def State.settleTimer (p : Player) (s : State) : Option Nat :=
  if (s.player p).art = .sounding then (s.player p).settle else none

/-- SETTLE_EXPIRY: the player's settle timer runs out (R58, R62). -/
def execSettleExpiry (p : Player) (s : State) : Host.Outcome State Fault Refusal :=
  .next (unlessHeld (atExpiry (State.settleTimer p) (resolveNote p)) s)

end Sys2Proof.Machine
end

