-- ==== Sys2Proof/Machine/Sensing.lean ====
section
/-!
DEFINITION. The sensor converter: sweeps (R1 to R3), warm-up (R4, R5), zero capture (R7 to R9), drift tracking (R10,
R11), sensor faults (R12 to R14), the shaping and articulation work of a sweep (R30, R67), and the sweep commands.
-/
namespace Sys2Proof.Machine

open Sys2Proof

/-- A player's channel. -/
def PlayerState.channel (q : PlayerState) : Transducer → Channel
  | .breath => q.breath
  | .lip => q.lip

/-- Replaces a player's channel. -/
def PlayerState.withChannel (t : Transducer) (c : Channel) (q : PlayerState) : PlayerState :=
  match t with
  | .breath => { q with breath := c }
  | .lip => { q with lip := c }

/-- A sample at either end of the converter's range (R12). -/
def extreme (x : Sample) : Bool := x == 0 || x == 4095

/-- A NORMAL channel enters FAULT (R12). -/
def enterFault (p : Player) (t : Transducer) (s : State) : State :=
  broadcast .sensor
    ((s.modPlayer p (PlayerState.withChannel t { state := .fault, run := 0 })).modCounters
      fun c => { c with sensorFaults := countUp c.sensorFaults })

/-- A channel in FAULT returns to NORMAL (R13). -/
def leaveFault (p : Player) (t : Transducer) (s : State) : State :=
  broadcast .sensor (s.modPlayer p (PlayerState.withChannel t { state := .normal, run := 0 }))

/-- The fault update of one channel by its sample (R12, R13). -/
def faultUpdate (p : Player) (t : Transducer) (x : Sample) (s : State) : State :=
  let c := (s.player p).channel t
  let opposes := match c.state with
    | .normal => extreme x
    | .fault => !extreme x
  if opposes then
    if c.run + 1 < Config.faultRun then s.modPlayer p (PlayerState.withChannel t { c with run := c.run + 1 })
    else
      match c.state with
      | .normal => enterFault p t s
      | .fault => leaveFault p t s
  else s.modPlayer p (PlayerState.withChannel t { c with run := 0 })

/-- The fault update of both channels of a player (R1). -/
def faultUpdates (p : Player) (x : Sample × Sample) (s : State) : State :=
  faultUpdate p .lip x.2 (faultUpdate p .breath x.1 s)

/-- The drift block is cleared (R10). -/
def PlayerState.driftCleared (q : PlayerState) : PlayerState := { q with driftCount := 0, driftSum := 0 }

/-- Count, sums, taints and requester of a capture at 0, clear or none (R7, R8, R9). -/
def PlayerState.captureCleared (q : PlayerState) : PlayerState :=
  { q with
    captureCount := 0, breathSum := 0, lipSum := 0, breathTaint := false, lipTaint := false, captureFor := none }

/-- A zero capture begins, with its requester if it has one (R7). -/
def beginCapture (p : Player) (requester : Option Station) (s : State) : State :=
  s.modPlayer p fun q => { q.captureCleared.driftCleared with art := .capture, captureFor := requester }

/-- DEDUCED, safe (entry 25): the drift block, empty in WARMUP and CAPTURE, is cleared at their completions too (R10).
Warm-up ends: the count returns to 0 and the player goes to CAPTURE or SILENT by its capture-on-enable setting
(R5). -/
def endWarmup (p : Player) (s : State) : State :=
  let t := s.modPlayer p fun q => { q.driftCleared with art := .silent, warmup := 0 }
  if (s.settings p).captureOnEnable then beginCapture p none t else t

/-- A sweep's work for a player in WARMUP: both samples are discarded (R3, R4). -/
def warmupWork (p : Player) (s : State) : State :=
  if (s.player p).warmup + 1 < Config.warmupSweeps then
    s.modPlayer p fun q => { q.driftCleared with warmup := q.warmup + 1 }
  else endWarmup p s

/-- The mean of a capture sum, halves rounded up (R8). -/
def captureMean (sum : Nat) : Nat := (sum + 8) / 16

/-- A capture completes: untainted means are stored, the player goes to SILENT, and the requester is told (R8). -/
def completeCapture (p : Player) (s : State) : State :=
  notify .captureDone (s.player p).captureFor
    (s.modPlayer p fun q =>
      { q.captureCleared with
        art := .silent
        offset := if q.breathTaint then q.offset else captureMean q.breathSum
        centre := if q.lipTaint then q.centre else captureMean q.lipSum })

/-- A player's capture with one more sweep in its taints, sums and count (R8). -/
def PlayerState.captureAdvanced (x : Sample × Sample) (q : PlayerState) : PlayerState :=
  { q with
    breathTaint := q.breathTaint || decide (q.breath.state = .fault)
    lipTaint := q.lipTaint || decide (q.lip.state = .fault)
    breathSum := q.breathSum + x.1.toNat
    lipSum := q.lipSum + x.2.toNat
    captureCount := q.captureCount + 1 }

/-- A sweep's work for a player in CAPTURE: the shaping unit is handed n = 0 and bend 0, and a sweep that started after
the capture began advances it (R3, R7, R8). -/
def captureWork (p : Player) (counts : Bool) (x : Sample × Sample) (s : State) : State :=
  let t := (faultUpdates p x s).modPlayer p fun q => { q.driftCleared with n := 0, bend := 0 }
  if counts then
    let u := t.modPlayer p (PlayerState.captureAdvanced x)
    if (u.player p).captureCount < Config.captureSweeps then u else completeCapture p u
  else t

/-- The breath offset after a drift block: one count toward the block mean when it lies within the window (R11). -/
def driftOffset (offset sum : Nat) : Nat :=
  let m := sum / 256
  if ((m : Int) - offset).natAbs ≤ Config.driftWindow then
    if offset < m then offset + 1 else if m < offset then offset - 1 else offset
  else offset

/-- A player's drift block with one more sample; a full block steps the offset and is cleared (R10, R11). -/
def PlayerState.driftGathered (x : Sample) (q : PlayerState) : PlayerState :=
  let sum := q.driftSum + x.toNat
  if q.driftCount + 1 < Config.driftSweeps then { q with driftCount := q.driftCount + 1, driftSum := sum }
  else { q.driftCleared with offset := driftOffset q.offset sum }

/-- Drift tracking runs for the player (R10). -/
def State.drifts (s : State) (p : Player) : Bool :=
  (s.settings p).drift && decide ((s.player p).art = .silent) && decide ((s.player p).breath.state = .normal)

/-- Drift tracking at a sweep's end: the sample is gathered, or the block is cleared (R10). -/
def driftWork (p : Player) (x : Sample) (s : State) : State :=
  s.modPlayer p (if s.drifts p then PlayerState.driftGathered x else PlayerState.driftCleared)

/-- The sweep decision (R67, R81). -/
def sweepDecision (p : Player) (s : State) : State :=
  let q := s.player p
  let x := s.settings p
  match q.art with
  | .silent => if x.onThreshold ≤ q.n then attack p s else s
  | .sounding => if q.n < x.offThreshold then releaseNote p s else s
  | .quiet => if q.n < x.offThreshold then dropNote p .silent s else s
  | .disabled => s
  | .warmup => s
  | .capture => s

/-- Current n and current bend are stored from the samples (R30 step 1). -/
def storeShape (p : Player) (x : Sample × Sample) (s : State) : State :=
  s.modPlayer p fun q => { q with n := breathN q (s.settings p) x.1, bend := lipBend q (s.settings p) x.2 }

/-- A sweep's work for a player in SILENT, SOUNDING or QUIET (R3, R30): fault update, n and bend, decision, stages 3 to
6, bend report, drift tracking. -/
def playWork (p : Player) (x : Sample × Sample) (s : State) : State :=
  driftWork p x.1 (reportBend p (shapeVoices p (sweepDecision p (storeShape p x (faultUpdates p x s)))))

/-- A sweep's work for a player whose channels were converted, by the player's state (R3). -/
def playerWork (p : Player) (w : Sweep) (s : State) : State :=
  match (s.player p).art with
  | .disabled => s
  | .warmup => warmupWork p s
  | .capture => captureWork p (w.inCapture.get p) (w.samples.get p) s
  | .silent => playWork p (w.samples.get p) s
  | .sounding => playWork p (w.samples.get p) s
  | .quiet => playWork p (w.samples.get p) s

/-- A sweep's work for a player, if its channels are in the sweep's set (R1, R2). -/
def convertedWork (p : Player) (w : Sweep) (s : State) : State := if w.set.get p then playerWork p w s else s

/-- The completion of the sweep in progress: player 1's whole work, then player 2's (R1). -/
def completeSweep (s : State) : State :=
  match s.sweep with
  | none => s
  | some w => convertedWork .p2 w (convertedWork .p1 w { s with sweep := none })

/-- A disable at the sensor converter, at any time and during a sweep (R2). -/
def disableChannels (p : Player) (s : State) : State :=
  let q := s.player p
  let t := s.modPlayer p fun x =>
    { x.captureCleared.driftCleared with breath := Channel.reset, lip := Channel.reset, warmup := 0 }
  let u := { t with sweep := t.sweep.map fun w => { w with set := w.set.set p false } }
  if q.breath.state = .fault ∨ q.lip.state = .fault then broadcast .sensor u else u

/-- A sweep as it starts: the set of channels of the players enabled at that moment, and the samples their conversions
give, all four against the one reference (R1, R177). -/
def newSweep (s : State) (vref : Nat) (mouthpiece1 mouthpiece2 : Mouthpiece) (roundUp : Pair (Bool × Bool)) :
    Sweep where
  set := { p1 := (s.settings .p1).enabled, p2 := (s.settings .p2).enabled }
  inCapture := { p1 := decide ((s.player .p1).art = .capture), p2 := decide ((s.player .p2).art = .capture) }
  samples := { p1 := mouthpiece1.samples vref roundUp.p1, p2 := mouthpiece2.samples vref roundUp.p2 }

/-- SWEEP_START (R1). DESIGN CHOICE, unsafe (entry 16): a start while a sweep is in progress replaces it. -/
def execSweepStart (vref : Nat) (mouthpiece1 mouthpiece2 : Mouthpiece) (roundUp : Pair (Bool × Bool)) (s : State) :
    Host.Outcome State Fault Refusal :=
  .next (unlessHeld (fun s => { s with sweep := some (newSweep s vref mouthpiece1 mouthpiece2 roundUp) }) s)

/-- SWEEP_COMPLETION (R1, R3). -/
def execSweepCompletion (s : State) : Host.Outcome State Fault Refusal := .next (unlessHeld completeSweep s)

/-- The completion of the sweep in progress, if something comes about in it for player `p`: `brings before after` says
so of the player's state before and after. DEDUCED, safe (entry 6): the event lies within that completion, and where it does not
come about nothing happens. -/
def sweepEvent (p : Player) (brings : PlayerState → PlayerState → Bool) (s : State) : State :=
  let t := completeSweep s
  if brings (s.player p) (t.player p) then t else s

/-- FAULT_ENTRY: the completion of the sweep that brings the channel into FAULT (R12). -/
def execFaultEntry (p : Player) (t : Transducer) (s : State) : Host.Outcome State Fault Refusal :=
  .next (unlessHeld
    (sweepEvent p fun a b => decide ((a.channel t).state = .normal) && decide ((b.channel t).state = .fault)) s)

/-- FAULT_EXIT: the completion of the sweep that brings the channel back to NORMAL (R13). -/
def execFaultExit (p : Player) (t : Transducer) (s : State) : Host.Outcome State Fault Refusal :=
  .next (unlessHeld
    (sweepEvent p fun a b => decide ((a.channel t).state = .fault) && decide ((b.channel t).state = .normal)) s)

/-- WARMUP_END: the completion of the sweep that brings the warm-up count to 8 (R5). -/
def execWarmupEnd (p : Player) (s : State) : Host.Outcome State Fault Refusal :=
  .next (unlessHeld (sweepEvent p fun a b => decide (a.art = .warmup) && decide (b.art ≠ .warmup)) s)

/-- CAPTURE_COMPLETION: the completion of the sweep that brings the capture count to 16 (R8). -/
def execCaptureCompletion (p : Player) (s : State) : Host.Outcome State Fault Refusal :=
  .next (unlessHeld (sweepEvent p fun a b => decide (a.art = .capture) && decide (b.art ≠ .capture)) s)

/-- The sweep filled the player's drift block: it stood one short, and the player still drifts (R11). -/
def driftFilled (a b : PlayerState) : Bool :=
  decide (Config.driftSweeps ≤ a.driftCount + 1) && decide (b.driftCount = 0) && decide (b.art = .silent) &&
    decide (b.breath.state = .normal)

/-- DRIFT_STEP: the completion of the sweep that brings the drift block count to 256 (R11). -/
def execDriftStep (p : Player) (s : State) : Host.Outcome State Fault Refusal :=
  .next (unlessHeld (fun s => sweepEvent p (fun a b => (s.settings p).drift && driftFilled a b) s) s)

end Sys2Proof.Machine
end

