-- ==== Sys2Proof/Machine/Image.lean ====
section
/-!
DEFINITION. The image controller: the image's bytes (R168), load (R170, R171), store (R173, R174) and restart (R175,
R179), with their commands.
-/
namespace Sys2Proof.Machine

open Sys2Proof

/-! ### The image (R168) -/

/-- The body bytes of the tables, settings and calibration values as they stand (R168, R173). -/
def imageBody (s : State) : List Byte :=
  s.tables.entries.list.flatMap (fun e => e.raw.bytes) ++
  s.tables.charts.list.flatMap Chart.bytes ++
  s.tables.layers.list.flatMap (fun y => y.list.flatMap fun z => z.raw.bytes) ++
  s.tables.curves.list.flatMap (fun c => curveBytes (Curve.raw c)) ++
  ((s.settings .p1).raw.bytes ++ (s.player .p1).calibration.bytes) ++
  ((s.settings .p2).raw.bytes ++ (s.player .p2).calibration.bytes) ++
  [byteOfNat s.tables.renderer.val, byteOfNat s.tables.returnSteps] ++
  s.tables.routes.list.map routeByte

/-- The sum of the body bytes modulo 65536 (R168). -/
def bodySum (l : List Byte) : BitVec 16 := l.foldl (fun a b => a + b.setWidth 16) 0

/-- The header page of a body (R168). -/
def headerPage (body : List Byte) : List Byte :=
  [0x5A, 0xA7, byteOfNat Config.imageVersion] ++ bytesOfNat Config.bodyBytes ++ twoBytes (bodySum body) ++
    List.replicate 57 0

/-- The data of body page `n`, 1 to 34, the last one padded with 00h (R168, R173). -/
def bodyPage (body : List Byte) (n : Nat) : List Byte :=
  let part := (body.drop ((n - 1) * Config.pageBytes)).take Config.pageBytes
  part ++ List.replicate (Config.pageBytes - part.length) 0

/-- The bytes of a read: what the memory holds, or what it is said to answer (R167). -/
def answerBytes (m : List Host.Cell) (a n : Nat) : MemAnswer → List Byte
  | .stored => Memory.readBytes m a n
  | .bytes l => (List.range n).map fun i => l.getD i 0xFF

/-- The header's tag, version and body length are right (R168, R170). -/
def headerOk (h : List Byte) : Bool :=
  byteAt h 0 == 0x5A && byteAt h 1 == 0xA7 && byteAt h 2 == byteOfNat Config.imageVersion &&
    wordAt h 3 == BitVec.ofNat 16 Config.bodyBytes

/-- Places of the sections in the body (R168). -/
def chartsAt : Nat := 1728
def layersAt : Nat := 1736
def curvesAt : Nat := 1992
def playersAt : Nat := 2064
def partAt : Nat := 2112
def routesAt : Nat := 2114

/-- The place of a player's record in the body (R168). -/
def playerAt : Player → Nat
  | .p1 => playersAt
  | .p2 => playersAt + 24

/-- The settings of a player's record, brought into range (R171). -/
def settingsOfBody (b : List Byte) (p : Player) : Settings := (RawSettings.ofBytes (b.drop (playerAt p))).stored

/-- The calibration values of a player's record (R168). -/
def calibrationOfBody (b : List Byte) (p : Player) : RawCalibration :=
  RawCalibration.ofBytes (b.drop (playerAt p + 20))

/-- The tables and settings of a body, brought into range and normalized (R168, R171). -/
def tablesOfBody (b : List Byte) : Tables where
  entries := Tab.ofFn fun i => (RawEntry.ofBytes (b.drop (9 * i.val))).stored
  charts := Tab.ofFn fun i => chartOf (byteAt b (chartsAt + 2 * i.val)) (byteAt b (chartsAt + 2 * i.val + 1))
  layers := Tab.ofFn fun i => Tab.ofFn fun j => (RawLayer.ofBytes (b.drop (layersAt + 8 * (4 * i.val + j.val)))).stored
  curves := Tab.ofFn fun i => curveOf (curveOfBytes (b.drop (curvesAt + 18 * i.val)))
  settings := { p1 := settingsOfBody b .p1, p2 := settingsOfBody b .p2 }
  renderer := indexOf 3 (byteAt b partAt)
  returnSteps := stepsOf (byteAt b (partAt + 1))
  routes := Tab.ofFn fun i => routeOf (byteAt b (routesAt + i.val))

/-! ### The memory port (R167) -/

/-- The address of a page's first byte, most significant byte first (R167). -/
def pageAddress (n : Nat) : List Byte := threeBytes (BitVec.ofNat 24 (Config.pageBytes * n))

/-- The write enable before each erase and page program (R167). -/
def writeEnable : Transaction := { sent := [0x06], reads := 0 }

/-- A page program's transactions, followed by its busy wait (R167, R173). -/
def programPage (n : Nat) (data : List Byte) : List Transaction :=
  [writeEnable, { sent := 0x02 :: (pageAddress n ++ data), reads := 0 }, statusRead]

/-- A sector erase's transactions, followed by its busy wait (R167, R173). -/
def erasePort : List Transaction := [writeEnable, { sent := 0x20 :: pageAddress 0, reads := 0 }, statusRead]

/-- A read's transaction (R167). -/
def readPort (page n : Nat) : List Transaction := [{ sent := 0x03 :: pageAddress page, reads := n }]

/-- A read's transaction begins: the memory is selected and clocked until the answer is in (R167, R179). -/
def beginRead (page n : Nat) (s : State) : State :=
  { s with port := readPort page n, pins := { s.pins with msl := false, mck := true } }

/-- The port rests: the memory is deselected and its clock low (R167, R179). -/
def restPort (s : State) : State := { s with port := [], pins := { s.pins with msl := true, mck := false } }

/-- The transactions that begin a store step (R173). Each is over when the step's busy wait begins, and the memory is
deselected between the status reads of that wait. -/
def storePort (body : List Byte) : StoreStep → List Transaction
  | .erase => erasePort
  | .page n => programPage n (bodyPage body n)
  | .header => programPage 0 (headerPage body)

/-! ### Load (R170, R171) -/

/-- A player is disabled: by the sensor converter (R2), the key scanner (R25) and the articulation controller (R82). -/
def disablePlayer (p : Player) (s : State) : State := disableNote p (disableScanner p (disableChannels p s))

/-- A player's enabled setting is set. -/
def setEnabled (p : Player) (on : Bool) (s : State) : State :=
  s.modTables fun t => { t with settings := t.settings.set p { t.settings.get p with enabled := on } }

/-- A load begins with its busy wait (R170). -/
def enterLoading (s : State) : State :=
  { s with partState := .loading, load := some (.busyWait 0), port := [statusRead] }

/-- The start of a LOAD-IMAGE: every voice is cut, both players are disabled, their enabled settings go off, and the
load begins (R2, R15, R84, R106, R170). DEDUCED, unsafe (entry 23): the enabled settings stay off until the load ends. -/
def startLoad (s : State) : State :=
  let t := disablePlayer .p2 (disablePlayer .p1 (cutAll s))
  enterLoading (setEnabled .p2 false (setEnabled .p1 false t))

/-- A player's calibration values are set (R6). -/
def setCalibration (p : Player) (c : RawCalibration) (s : State) : State :=
  s.modPlayer p fun q => { q with offset := calibrationOf c.offset, centre := calibrationOf c.centre }

/-- A player that the loaded settings leave enabled is enabled (R15, R83, R171). -/
def enableLoaded (p : Player) (s : State) : State := if (s.settings p).enabled then enablePlayer p s else s

/-- The loaded routes act on the queues (R114, R171). -/
def setRoutes (new : Tab (Pair Bool) 4) (s : State) : State :=
  (upTo 4).foldl (fun t st => setRoute st (new.get st) t) s

/-- The end of a load: every table and setting is replaced at once, the part state becomes RUN, and the new values take
effect (R171). DEDUCED, unsafe (entry 13): the renderer change comes before the route changes, as R171 lists them. -/
def endLoad (new : Tables) (c1 c2 : RawCalibration) (s : State) : State :=
  let s1 := setCalibration .p2 c2 (setCalibration .p1 c1 s)
  let s2 := s1.modTables fun t => { new with renderer := t.renderer, routes := t.routes }
  let s3 := restPort { s2 with partState := .run, load := none }
  let s4 := setRoutes new.routes (setRenderer new.renderer s3)
  enableLoaded .p2 (enableLoaded .p1 s4)

/-- The default calibration values (R172). -/
def defaultCalibration : RawCalibration :=
  { offset := BitVec.ofNat 16 Config.defaultOffset, centre := BitVec.ofNat 16 Config.defaultCentre }

/-- A load that takes the built-in defaults (R171, R172). -/
def loadDefaults (s : State) : State :=
  endLoad Tables.defaults defaultCalibration defaultCalibration (broadcast .imageDefaulted s)

/-- A load that takes a valid image's body (R171). -/
def loadBody (b : List Byte) (s : State) : State :=
  endLoad (tablesOfBody b) (calibrationOfBody b .p1) (calibrationOfBody b .p2) s

/-- The busy wait of a load sees the memory not busy: the header read begins (R170). -/
def endBusyWait (s : State) : State :=
  match s.load with
  | some (.busyWait _) => beginRead 0 Config.pageBytes { s with load := some .header }
  | some .header => s
  | some (.body _) => s
  | none => s

/-- The busy limit of a load passes: the defaults are taken (R170). -/
def passBusyLimit (s : State) : State :=
  match s.load with
  | some (.busyWait _) => loadDefaults s
  | some .header => s
  | some (.body _) => s
  | none => s

/-- The header page is read (R170). -/
def readHeader (answer : MemAnswer) (s : State) : State :=
  match s.load with
  | some .header =>
    let h := answerBytes s.flash 0 Config.pageBytes answer
    if headerOk h then beginRead 1 Config.bodyBytes { s with load := some (.body (wordAt h 5)) }
    else loadDefaults s
  | some (.busyWait _) => s
  | some (.body _) => s
  | none => s

/-- The body is read into the staging copy and its sum compared with the header's (R170). -/
def readBody (answer : MemAnswer) (s : State) : State :=
  match s.load with
  | some (.body sum) =>
    let b := answerBytes s.flash Config.pageBytes Config.bodyBytes answer
    if bodySum b = sum then loadBody b s else loadDefaults s
  | some .header => s
  | some (.busyWait _) => s
  | none => s

/-- LOAD_BUSY_WAIT_END (R170). In no other step of a load is there a busy wait to end. -/
def execLoadBusyWaitEnd (s : State) : Host.Outcome State Fault Refusal := .next (unlessHeld endBusyWait s)

/-- LOAD_BUSY_LIMIT (R170). -/
def execLoadBusyLimit (s : State) : Host.Outcome State Fault Refusal := .next (unlessHeld passBusyLimit s)

/-- LOAD_HEADER_READ (R170). DESIGN CHOICE, safe (entry 11): the operand says what the memory answers. -/
def execLoadHeaderRead (answer : MemAnswer) (s : State) : Host.Outcome State Fault Refusal :=
  .next (unlessHeld (readHeader answer) s)

/-- LOAD_BODY_READ (R170, R171). DESIGN CHOICE, safe (entry 11): the operand says what the memory answers. -/
def execLoadBodyRead (answer : MemAnswer) (s : State) : Host.Outcome State Fault Refusal :=
  .next (unlessHeld (readBody answer) s)

/-! ### Store (R173, R174) -/

/-- A store step begins: its write enable and command are sent. The erase takes effect in the memory as it begins, a
page program when its busy wait ends. DESIGN CHOICE, safe (entry 11): see `MemAnswer`. -/
def beginStoreStep (x : StoreStep) (s : State) : State :=
  { s with
    store := some { step := x, elapsed := 0 }
    port := storePort s.snapshot x
    flash := if x = .erase then Memory.eraseSector s.flash else s.flash }

/-- The start of a store: snapshot, requester, STORING, and the erase (R173). -/
def startStore (st : Station) (s : State) : State :=
  beginStoreStep .erase { s with partState := .storing, snapshot := imageBody s, storeFor := some st }

/-- The end of a store: the notice is set for the requester and the part state becomes RUN (R173, R174). DEDUCED, unsafe
(entry 19): the snapshot and the requester are given up. -/
def endStore (k : Kind) (s : State) : State :=
  { notify k s.storeFor s with partState := .run, store := none, snapshot := [], storeFor := none, port := [] }

/-- The store's next step after one whose busy wait has ended in time, with the page it programmed (R173). -/
def storeStepDone (x : StoreStep) (s : State) : State :=
  match x with
  | .erase => beginStoreStep (.page 1) s
  | .page n =>
    let t := { s with flash := Memory.writeBytes s.flash (Config.pageBytes * n) (bodyPage s.snapshot n) }
    if n < Config.bodyPages then beginStoreStep (.page (n + 1)) t else beginStoreStep .header t
  | .header => endStore .storeDone { s with flash := Memory.writeBytes s.flash 0 (headerPage s.snapshot) }

/-- STORE_STEP_DONE (R173). Without a store there is no step to end. -/
def execStoreStepDone (s : State) : Host.Outcome State Fault Refusal :=
  .next (unlessHeld (fun s => match s.store with | some x => storeStepDone x.step s | none => s) s)

/-- STORE_BUSY_LIMIT (R174). -/
def execStoreBusyLimit (s : State) : Host.Outcome State Fault Refusal :=
  .next (unlessHeld (fun s => match s.store with | some _ => endStore .storeFailed s | none => s) s)

/-! ### Restart (R175, R179) -/

/-- A restart: every block at its restart values, the cause recorded and a load begun; the image memory keeps its bytes,
commands already waiting go on waiting, and MSL goes high, which ends a transaction part way through (R175, R179). -/
def restartWith (cause : RestartCause) (s : State) : State :=
  { State.reset with pending := s.pending, flash := s.flash, cause := cause }

/-- The part held at its restart values while RESET is asserted: no load is begun and the memory is deselected (R175,
R179). -/
def holdReset (fromPowerUp : Bool) (s : State) : State :=
  { restartWith s.cause s with load := none, port := [], resetHeld := true, heldFromPowerUp := fromPowerUp }

/-- RESTART_REQUEST: the requested restart is carried out (R157, R175). DESIGN CHOICE, safe (entry 9): the command is
the carrying out, whether or not the model holds a RESTART that waits. -/
def execRestartRequest (s : State) : Host.Outcome State Fault Refusal :=
  .next (unlessHeld (restartWith .restartRequest) s)

/-- POWER_ON: supply comes up (R175). Under an asserted line the part stays held, and the line's release gives the
cause POWER-ON. DEDUCED, unsafe (entry 17). -/
def execPowerOn (s : State) : Host.Outcome State Fault Refusal :=
  .next (if s.resetHeld then holdReset true s else restartWith .powerOn s)

/-- RESET_ASSERTED: RESET has been low for `lowNs` nanoseconds; a low shorter than 1 µs is not taken (R179). -/
def execResetAsserted (lowNs : Nat) (s : State) : Host.Outcome State Fault Refusal :=
  .next (if Config.resetLowNs ≤ lowNs then holdReset (s.resetHeld && s.heldFromPowerUp) s else s)

/-- RESET_LINE: RESET is released; one that was not taken as asserted has nothing to release (R175, R179). -/
def execResetLine (s : State) : Host.Outcome State Fault Refusal :=
  .next (if s.resetHeld then restartWith (if s.heldFromPowerUp then .powerOn else .resetLine) s else s)

end Sys2Proof.Machine
end

