-- ==== Sys2Proof/Machine/Requests.lean ====
section
/-!
DEFINITION. The request engine: the checks of R150, each request of the catalogue (R148 to R157, R164 to R166), and the
request commands. A request's function answers the state after its execution and the response bytes.
-/
namespace Sys2Proof.Machine

open Sys2Proof

/-- Status codes of a response (R148). -/
inductive Status where
  | ok
  | accepted
  | clamped
  | notHolder
  | busy
  | badIndex
  | length
  | unknown
deriving DecidableEq, Repr

/-- The value of a status code (R148). -/
def Status.byte : Status → Byte
  | .ok => 0x00
  | .accepted => 0x01
  | .clamped => 0x02
  | .notHolder => 0x10
  | .busy => 0x11
  | .badIndex => 0x12
  | .length => 0x13
  | .unknown => 0x14

/-- Checks 3 to 5 of R150: LOADING, the grant for a request marked G, and STORING for the requests it forbids. -/
def gate (st : Station) (needsGrant storeBusy : Bool) (s : State) : Option Status :=
  if s.partState = .loading then some .busy
  else if needsGrant ∧ s.grant ≠ some st then some .notHolder
  else if storeBusy ∧ s.partState = .storing then some .busy
  else none

/-- A refused request answers its status alone and changes nothing (R148, R150). -/
def refuse (x : Status) (s : State) : State × List Byte := (s, [x.byte])

/-- Runs a request behind checks 3 to 5 of R150. -/
def served (st : Station) (needsGrant storeBusy : Bool) (f : State → State × List Byte) (s : State) :
    State × List Byte :=
  match gate st needsGrant storeBusy s with
  | some x => refuse x s
  | none => f s

/-- Runs a request behind check 6 of R150: an index field out of range. -/
def indexed (bad : Bool) (f : State → State × List Byte) (s : State) : State × List Byte :=
  if bad then refuse .badIndex s else f s

/-- A read request's answer: OK and the fields (R152). -/
def answer (fields : List Byte) (s : State) : State × List Byte := (s, Status.ok.byte :: fields)

/-- A write request's answer: CLAMPED when a field was clamped, else OK (R150, R151). -/
def written (clamped : Bool) (s : State) : State × List Byte := (s, [if clamped then Status.clamped.byte else Status.ok.byte])

/-- The answer of a request that began a long operation (R157). -/
def accepted (s : State) : State × List Byte := (s, [Status.accepted.byte])

/-! ### READ-STATUS (R149) -/

/-- The code byte of a part state (R149). -/
def PartState.byte : PartState → Byte
  | .loading => 0
  | .run => 1
  | .storing => 2

/-- The code byte of a restart cause (R149). -/
def RestartCause.byte : RestartCause → Byte
  | .powerOn => 0
  | .resetLine => 1
  | .restartRequest => 2

/-- The four-bit value of a station code (R135, R149). -/
def Code.byte : Code → Byte
  | .ready => 1
  | .hold => 2
  | .releaseAll => 4
  | .cutAll => 5
  | .absent => 15

/-- The code byte of a player state (R149). -/
def ArtState.byte : ArtState → Byte
  | .disabled => 0
  | .warmup => 1
  | .capture => 2
  | .silent => 3
  | .sounding => 4
  | .quiet => 5

/-- The holder field: the station, or 7 for FREE (R131, R149). -/
def grantByte : Option Station → Byte
  | some st => byteOfNat st.val
  | none => 7

/-- The two bytes of a layer slot (R149). -/
def slotBytes : Option Incarnation → List Byte
  | some i => [byteOfNat i.voice.val, i.gen.setWidth 8]
  | none => [0xFF, 0]

/-- The ten bytes of a note record; a player that is not SOUNDING reports an empty one (R149). -/
def noteBytes (q : PlayerState) : List Byte :=
  match q.art, q.note with
  | .sounding, some r => [byteOfNat r.base, sourceByte r.source] ++ r.slots.list.flatMap slotBytes
  | _, _ => [0, 0xFF] ++ (List.replicate 4 none).flatMap slotBytes

/-- The channel fault byte: bit 0 breath, bit 1 lip (R149). -/
def faultByte (q : PlayerState) : Byte :=
  byteOfBool (decide (q.breath.state = .fault)) ||| (byteOfBool (decide (q.lip.state = .fault)) <<< 1)

/-- The 17 bytes of a player (R149). -/
def playerBytes (q : PlayerState) : List Byte :=
  [q.art.byte, faultByte q] ++ threeBytes q.word ++ [byteOfInt q.octave, byteOfBool q.held] ++ noteBytes q

/-- The 42 bytes of READ-STATUS (R149). -/
def statusBytes (s : State) : List Byte :=
  [s.partState.byte, s.cause.byte, grantByte s.grant] ++ s.stations.list.map (fun x => x.code.byte) ++
    [byteOfNat s.freeList.length] ++ playerBytes (s.player .p1) ++ playerBytes (s.player .p2)

/-! ### The requests -/

/-- READ-STATUS, carried out while LOADING too (R149, R150). -/
def reqReadStatus (s : State) : State × List Byte := answer (statusBytes s) s

/-- The 13 counters in their order (R166). -/
def counterBytes (c : Counters) : List Byte :=
  ([c.steals, c.droppedLayers, c.reclaims, c.earlyReturns, c.lateReturns, c.staleReturns, c.overflows, c.sensorFaults,
    c.unrecognizedCodes] ++ c.badSlots.list).flatMap bytesOfNat

/-- READ-COUNTERS (R166). -/
def reqReadCounters (st : Station) : State → State × List Byte :=
  served st false false fun s => answer (counterBytes s.counters) s

/-- CLEAR-COUNTERS (R166). -/
def reqClearCounters (st : Station) : State → State × List Byte :=
  served st true false fun s => written false { s with counters := Counters.zero }

/-- READ-ENTRY (R49). -/
def reqReadEntry (st : Station) (entry : Byte) : State → State × List Byte :=
  served st false false <| indexed (overIndex 191 entry) fun s =>
    answer (s.tables.entries.get (indexOf 191 entry)).raw.bytes s

/-- Replaces a fingering table entry whole (R48). -/
def storeEntry (i : EntryNo) (e : TableEntry) (s : State) : State :=
  s.modTables fun t => { t with entries := t.entries.set i e }

/-- WRITE-ENTRY (R48). -/
def reqWriteEntry (st : Station) (entry : Byte) (f : RawEntry) : State → State × List Byte :=
  served st true true <| indexed (overIndex 191 entry || overIndex 3 f.chart) fun s =>
    written f.clamped (storeEntry (indexOf 191 entry) f.stored s)

/-- CLEAR-ENTRY (R49). -/
def reqClearEntry (st : Station) (entry : Byte) : State → State × List Byte :=
  served st true true <| indexed (overIndex 191 entry) fun s =>
    written false (storeEntry (indexOf 191 entry) TableEntry.cleared s)

/-- READ-CHART (R50). -/
def reqReadChart (st : Station) (chart : Byte) : State → State × List Byte :=
  served st false false <| indexed (overIndex 3 chart) fun s => answer (s.tables.charts.get (indexOf 3 chart)).bytes s

/-- WRITE-CHART (R50). -/
def reqWriteChart (st : Station) (chart fallback base : Byte) : State → State × List Byte :=
  served st true true <| indexed (overIndex 3 chart) fun s =>
    written (chartClamped fallback base)
      (s.modTables fun t => { t with charts := t.charts.set (indexOf 3 chart) (chartOf fallback base) })

/-- The answer fields of RESOLVE: pitch, source and specificity, as for a player that is not sounding (R64). -/
def resolveBytes (t : Tables) (c : Fin 4) (w : BitVec 24) : List Byte :=
  let i := winner t.entries c w
  [byteOfNat (resolvedPitch t c none i), sourceByte i, byteOfNat (sourceSpecificity t i)]

/-- RESOLVE (R64). -/
def reqResolve (st : Station) (chart : Byte) (word : BitVec 24) : State → State × List Byte :=
  served st false false <| indexed (overIndex 3 chart) fun s => answer (resolveBytes s.tables (indexOf 3 chart) word) s

/-- READ-LAYER (R152). -/
def reqReadLayer (st : Station) (set layer : Byte) : State → State × List Byte :=
  served st false false <| indexed (overIndex 7 set || overIndex 3 layer) fun s =>
    answer ((s.tables.layers.get (indexOf 7 set)).get (indexOf 3 layer)).raw.bytes s

/-- WRITE-LAYER (R154). -/
def reqWriteLayer (st : Station) (set layer : Byte) (f : RawLayer) : State → State × List Byte :=
  served st true true <| indexed (overIndex 7 set || overIndex 3 layer || overIndex 3 f.curve) fun s =>
    written f.clamped
      (s.modTables fun t =>
        { t with
          layers := t.layers.set (indexOf 7 set) ((t.layers.get (indexOf 7 set)).set (indexOf 3 layer) f.stored) })

/-- READ-CURVE (R152). -/
def reqReadCurve (st : Station) (curve : Byte) : State → State × List Byte :=
  served st false false <| indexed (overIndex 3 curve) fun s =>
    answer (curveBytes (Curve.raw (s.tables.curves.get (indexOf 3 curve)))) s

/-- WRITE-CURVE (R34, R154). -/
def reqWriteCurve (st : Station) (curve : Byte) (points : RawCurve) : State → State × List Byte :=
  served st true true <| indexed (overIndex 3 curve) fun s =>
    written (curveClamped points)
      (s.modTables fun t => { t with curves := t.curves.set (indexOf 3 curve) (curveOf points) })

/-- READ-PLAYER: the settings, then offset and lip centre (R6, R152). -/
def reqReadPlayer (st : Station) (player : Byte) : State → State × List Byte :=
  served st false false fun s =>
    match playerOf player with
    | some p => answer ((s.settings p).raw.bytes ++ (s.player p).calibration.bytes) s
    | none => refuse .badIndex s

/-- Stores a player's settings; drift tracking written off clears the drift block (R10, R154). -/
def storeSettings (p : Player) (x : Settings) (s : State) : State :=
  let t := s.modTables fun t => { t with settings := t.settings.set p x }
  if x.drift then t else t.modPlayer p PlayerState.driftCleared

/-- Stores the calibration values that the longer form carries (R155). -/
def storeCalibration (p : Player) (c : Option RawCalibration) (s : State) : State :=
  match c with
  | some x => setCalibration p x s
  | none => s

/-- Takes a change of the enabled setting, from `was` to the one now stored (R155). -/
def takeEnabled (p : Player) (was : Bool) (s : State) : State :=
  if was = (s.settings p).enabled then s else if was then disablePlayer p s else enablePlayer p s

/-- A write of a player's settings: stored first, then a change of the enabled setting is taken (R155). -/
def writePlayer (p : Player) (f : RawSettings) (c : Option RawCalibration) (s : State) : State :=
  takeEnabled p (s.settings p).enabled (storeCalibration p c (storeSettings p f.stored s))

/-- WRITE-PLAYER (R155). -/
def reqWritePlayer (st : Station) (player : Byte) (f : RawSettings) (c : Option RawCalibration) :
    State → State × List Byte :=
  served st true true fun s =>
    match playerOf player with
    | some p =>
      indexed (overIndex 3 f.chart || overIndex 7 f.layerSet)
        (fun s => written (f.clamped || c.any RawCalibration.clamped) (writePlayer p f c s)) s
    | none => refuse .badIndex s

/-- ZERO-CAPTURE (R7, R150, R157). -/
def reqZeroCapture (st : Station) (player : Byte) : State → State × List Byte :=
  served st true false fun s =>
    match playerOf player with
    | some p => if (s.player p).art = .silent then accepted (beginCapture p (some st) s) else refuse .busy s
    | none => refuse .badIndex s

/-- READ-PART (R152). -/
def reqReadPart (st : Station) : State → State × List Byte :=
  served st false false fun s => answer [byteOfNat s.tables.renderer.val, byteOfNat s.tables.returnSteps] s

/-- Every voice is FREE (R107, R150). -/
def State.allFree (s : State) : Bool := (upTo 32).all fun v => decide ((s.voice v).state = .free)

/-- WRITE-PART: another renderer station is named only while every voice is FREE (R128, R150, R156). -/
def reqWritePart (st : Station) (renderer steps : Byte) : State → State × List Byte :=
  served st true true <| indexed (overIndex 3 renderer) fun s =>
    if indexOf 3 renderer ≠ s.tables.renderer ∧ ¬ s.allFree then refuse .busy s
    else
      written (changedNat 1 50 steps.toNat)
        (setRenderer (indexOf 3 renderer) (s.modTables fun t => { t with returnSteps := stepsOf steps }))

/-- READ-ROUTE (R114). -/
def reqReadRoute (st : Station) (station : Byte) : State → State × List Byte :=
  served st false false <| indexed (overIndex 3 station) fun s =>
    answer [routeByte (s.tables.routes.get (indexOf 3 station))] s

/-- WRITE-ROUTE (R114). -/
def reqWriteRoute (st : Station) (station mask : Byte) : State → State × List Byte :=
  served st true true <| indexed (overIndex 3 station) fun s =>
    written (routeClamped mask) (setRoute (indexOf 3 station) (routeOf mask) s)

/-- The code of a voice state (R153). -/
def VoiceState.code : VoiceState → Byte
  | .free => 0
  | .active => 1
  | .held => 2
  | .releasing => 3

/-- A timer's remaining time in whole milliseconds, rounded up; a stopped timer is 0 (R99). -/
def timerMs (t : Option Nat) : Nat :=
  match t with
  | some d => (d + (Config.bitsPerMs - 1)) / Config.bitsPerMs
  | none => 0

/-- The player's number (R153). -/
def Player.number : Player → Byte
  | .p1 => 1
  | .p2 => 2

/-- The player bit: 0 for player 1 (R131, R153). -/
def playerBit : Player → Byte
  | .p1 => 0
  | .p2 => 1

/-- The 20 bytes of READ-VOICE (R153). -/
def voiceBytes (x : Voice) : List Byte :=
  [x.state.code, x.gen.setWidth 8, Player.number x.player, byteOfNat x.layer.val, byteOfNat x.pitch] ++
    bytesOfInt x.bend ++ bytesOfNat x.level ++ [x.program, byteOfNat x.curve.val] ++ bytesOfNat x.scale ++
    bytesOfNat x.s ++ bytesOfNat x.lastLevel ++ [byteOfBool x.releaseTaken] ++ bytesOfNat (timerMs x.timer)

/-- READ-VOICE (R108, R153). -/
def reqReadVoice (st : Station) (voice : Byte) : State → State × List Byte :=
  served st false false <| indexed (overIndex 31 voice) fun s => answer (voiceBytes (s.voice (indexOf 31 voice))) s

/-- A voice's byte in READ-POOL (R153). -/
def poolByte (x : Voice) : Byte := (x.state.code <<< 6) ||| ((x.gen.setWidth 8) <<< 2) ||| playerBit x.player

/-- READ-POOL (R108, R153). -/
def reqReadPool (st : Station) : State → State × List Byte :=
  served st false false fun s => answer (s.voices.list.map poolByte) s

/-- A kind set as a two-byte field (R148). -/
def kindBytes (k : BitVec 14) : List Byte := twoBytes (k.setWidth 16)

/-- READ-ATTENTION (R153). -/
def reqReadAttention (st : Station) : State → State × List Byte :=
  served st false false fun s => answer (kindBytes (s.station st).attention ++ kindBytes (s.station st).masked) s

/-- TAKE-ATTENTION (R164). -/
def reqTakeAttention (st : Station) : State → State × List Byte :=
  served st false false fun s =>
    match (s.station st).nextKind with
    | some k =>
      answer [byteOfNat k] (s.modStation st fun x => { x with attention := x.attention &&& ~~~(1#14 <<< k) })
    | none => answer [0xFF] s

/-- CLEAR-ATTENTION (R165). -/
def reqClearAttention (st : Station) (kinds : BitVec 16) : State → State × List Byte :=
  served st false false fun s =>
    written (kindsClamped kinds)
      (s.modStation st fun x => { x with attention := x.attention &&& ~~~(kindsOf kinds) })

/-- MASK-ATTENTION (R165). -/
def reqMaskAttention (st : Station) (kinds : BitVec 16) : State → State × List Byte :=
  served st false false fun s =>
    written (kindsClamped kinds) (s.modStation st fun x => { x with masked := x.masked ||| kindsOf kinds })

/-- UNMASK-ATTENTION (R165). -/
def reqUnmaskAttention (st : Station) (kinds : BitVec 16) : State → State × List Byte :=
  served st false false fun s =>
    written (kindsClamped kinds) (s.modStation st fun x => { x with masked := x.masked &&& ~~~(kindsOf kinds) })

/-- SIGNAL (R165). -/
def reqSignal (st : Station) (station : Byte) : State → State × List Byte :=
  served st false false <| indexed (overIndex 3 station) fun s =>
    if s.present (indexOf 3 station) then answer [1] (setPending .signal (indexOf 3 station) s) else answer [0] s

/-- STORE-IMAGE (R173). -/
def reqStoreImage (st : Station) : State → State × List Byte :=
  served st true true fun s => accepted (startStore st s)

/-- LOAD-IMAGE (R170). -/
def reqLoadImage (st : Station) : State → State × List Byte :=
  served st true true fun s => accepted (startLoad s)

/-- RESTART: the restart waits for the response to be taken or aborted, or for the station to go ABSENT (R157). -/
def reqRestart (st : Station) : State → State × List Byte :=
  served st true false fun s => accepted (s.modStation st fun x => { x with restartWaits := true })

/-- A request's execution for a station (R144, R150). -/
def perform (st : Station) : Request → State → State × List Byte
  | .readStatus => reqReadStatus
  | .readCounters => reqReadCounters st
  | .clearCounters => reqClearCounters st
  | .readEntry e => reqReadEntry st e
  | .writeEntry e f => reqWriteEntry st e f
  | .clearEntry e => reqClearEntry st e
  | .readChart c => reqReadChart st c
  | .writeChart c f b => reqWriteChart st c f b
  | .resolve c w => reqResolve st c w
  | .readLayer y l => reqReadLayer st y l
  | .writeLayer y l f => reqWriteLayer st y l f
  | .readCurve c => reqReadCurve st c
  | .writeCurve c p => reqWriteCurve st c p
  | .readPlayer p => reqReadPlayer st p
  | .writePlayer p f c => reqWritePlayer st p f c
  | .zeroCapture p => reqZeroCapture st p
  | .readPart => reqReadPart st
  | .writePart r t => reqWritePart st r t
  | .readRoute x => reqReadRoute st x
  | .writeRoute x m => reqWriteRoute st x m
  | .readVoice v => reqReadVoice st v
  | .readPool => reqReadPool st
  | .readAttention => reqReadAttention st
  | .takeAttention => reqTakeAttention st
  | .clearAttention k => reqClearAttention st k
  | .maskAttention k => reqMaskAttention st k
  | .unmaskAttention k => reqUnmaskAttention st k
  | .signal x => reqSignal st x
  | .storeImage => reqStoreImage st
  | .loadImage => reqLoadImage st
  | .restart => reqRestart st

/-- Puts a response into a station's response buffer: the lane is SENDING and the request buffer empty (R144). -/
def respond (st : Station) (r : State × List Byte) : State :=
  r.1.modStation st fun x =>
    { x with lane := .sending, request := [], response := r.2, position := 0, onOffer := false }

/-- A request command: the request is executed for the station and its response formed. DESIGN CHOICE, safe (entry 8):
the command is the execution itself; how the request's bytes came over the lane is UPSTREAM_SLOT's. -/
def requested (st : Station) (f : State → State × List Byte) (s : State) : Host.Outcome State Fault Refusal :=
  .next (unlessHeld (fun s => respond st (f s)) s)

/-! ### The request commands -/

/-- READ_STATUS (R149). -/
def execReadStatus (st : Station) (s : State) : Host.Outcome State Fault Refusal :=
  requested st reqReadStatus s

/-- READ_COUNTERS (R166). -/
def execReadCounters (st : Station) (s : State) : Host.Outcome State Fault Refusal :=
  requested st (reqReadCounters st) s

/-- CLEAR_COUNTERS (R166). -/
def execClearCounters (st : Station) (s : State) : Host.Outcome State Fault Refusal :=
  requested st (reqClearCounters st) s

/-- READ_ENTRY (R49). -/
def execReadEntry (st : Station) (entry : Byte) (s : State) : Host.Outcome State Fault Refusal :=
  requested st (reqReadEntry st entry) s

/-- WRITE_ENTRY (R48). -/
def execWriteEntry (st : Station) (entry : Byte) (fields : RawEntry) (s : State) : Host.Outcome State Fault Refusal :=
  requested st (reqWriteEntry st entry fields) s

/-- CLEAR_ENTRY (R49). -/
def execClearEntry (st : Station) (entry : Byte) (s : State) : Host.Outcome State Fault Refusal :=
  requested st (reqClearEntry st entry) s

/-- READ_CHART (R50). -/
def execReadChart (st : Station) (chart : Byte) (s : State) : Host.Outcome State Fault Refusal :=
  requested st (reqReadChart st chart) s

/-- WRITE_CHART (R50). -/
def execWriteChart (st : Station) (chart fallback base : Byte) (s : State) : Host.Outcome State Fault Refusal :=
  requested st (reqWriteChart st chart fallback base) s

/-- RESOLVE (R64). -/
def execResolve (st : Station) (chart : Byte) (word : BitVec 24) (s : State) : Host.Outcome State Fault Refusal :=
  requested st (reqResolve st chart word) s

/-- READ_LAYER (R152). -/
def execReadLayer (st : Station) (set layer : Byte) (s : State) : Host.Outcome State Fault Refusal :=
  requested st (reqReadLayer st set layer) s

/-- WRITE_LAYER (R154). -/
def execWriteLayer (st : Station) (set layer : Byte) (fields : RawLayer) (s : State) :
    Host.Outcome State Fault Refusal :=
  requested st (reqWriteLayer st set layer fields) s

/-- READ_CURVE (R152). -/
def execReadCurve (st : Station) (curve : Byte) (s : State) : Host.Outcome State Fault Refusal :=
  requested st (reqReadCurve st curve) s

/-- WRITE_CURVE (R34, R154). -/
def execWriteCurve (st : Station) (curve : Byte) (points : RawCurve) (s : State) : Host.Outcome State Fault Refusal :=
  requested st (reqWriteCurve st curve points) s

/-- READ_PLAYER (R152). -/
def execReadPlayer (st : Station) (player : Byte) (s : State) : Host.Outcome State Fault Refusal :=
  requested st (reqReadPlayer st player) s

/-- WRITE_PLAYER (R155). -/
def execWritePlayer (st : Station) (player : Byte) (fields : RawSettings) (calibration : Option RawCalibration) (s : State) :
    Host.Outcome State Fault Refusal :=
  requested st (reqWritePlayer st player fields calibration) s

/-- ZERO_CAPTURE (R7). -/
def execZeroCapture (st : Station) (player : Byte) (s : State) : Host.Outcome State Fault Refusal :=
  requested st (reqZeroCapture st player) s

/-- READ_PART (R152). -/
def execReadPart (st : Station) (s : State) : Host.Outcome State Fault Refusal :=
  requested st (reqReadPart st) s

/-- WRITE_PART (R156). -/
def execWritePart (st : Station) (renderer steps : Byte) (s : State) : Host.Outcome State Fault Refusal :=
  requested st (reqWritePart st renderer steps) s

/-- READ_ROUTE (R114). -/
def execReadRoute (st : Station) (station : Byte) (s : State) : Host.Outcome State Fault Refusal :=
  requested st (reqReadRoute st station) s

/-- WRITE_ROUTE (R114). -/
def execWriteRoute (st : Station) (station mask : Byte) (s : State) : Host.Outcome State Fault Refusal :=
  requested st (reqWriteRoute st station mask) s

/-- READ_VOICE (R153). -/
def execReadVoice (st : Station) (voice : Byte) (s : State) : Host.Outcome State Fault Refusal :=
  requested st (reqReadVoice st voice) s

/-- READ_POOL (R153). -/
def execReadPool (st : Station) (s : State) : Host.Outcome State Fault Refusal :=
  requested st (reqReadPool st) s

/-- READ_ATTENTION (R153). -/
def execReadAttention (st : Station) (s : State) : Host.Outcome State Fault Refusal :=
  requested st (reqReadAttention st) s

/-- TAKE_ATTENTION (R164). -/
def execTakeAttention (st : Station) (s : State) : Host.Outcome State Fault Refusal :=
  requested st (reqTakeAttention st) s

/-- CLEAR_ATTENTION (R165). -/
def execClearAttention (st : Station) (kinds : BitVec 16) (s : State) : Host.Outcome State Fault Refusal :=
  requested st (reqClearAttention st kinds) s

/-- MASK_ATTENTION (R165). -/
def execMaskAttention (st : Station) (kinds : BitVec 16) (s : State) : Host.Outcome State Fault Refusal :=
  requested st (reqMaskAttention st kinds) s

/-- UNMASK_ATTENTION (R165). -/
def execUnmaskAttention (st : Station) (kinds : BitVec 16) (s : State) : Host.Outcome State Fault Refusal :=
  requested st (reqUnmaskAttention st kinds) s

/-- SIGNAL (R165). -/
def execSignal (st : Station) (station : Byte) (s : State) : Host.Outcome State Fault Refusal :=
  requested st (reqSignal st station) s

/-- STORE_IMAGE (R173). -/
def execStoreImage (st : Station) (s : State) : Host.Outcome State Fault Refusal :=
  requested st (reqStoreImage st) s

/-- LOAD_IMAGE (R170). -/
def execLoadImage (st : Station) (s : State) : Host.Outcome State Fault Refusal :=
  requested st (reqLoadImage st) s

/-- RESTART (R157). -/
def execRestart (st : Station) (s : State) : Host.Outcome State Fault Refusal :=
  requested st (reqRestart st) s

end Sys2Proof.Machine
end

