-- ==== Sys2Proof/Machine/Link.lean ====
section
/-!
DEFINITION. The link controller and the grant arbiter: frames (R130, R159, R161), downstream slots (R121, R131, R145),
upstream slots (R132 to R145, R158, R160), lost stations (R134, R139), with their commands.
-/
namespace Sys2Proof.Machine

open Sys2Proof

/-! ### The frame sync and the grant (R159 to R161) -/

/-- The station that a FREE grant goes to: the lowest-addressed one whose confirmed edit request is yes and whose yield
count is 0 (R159). -/
def State.nextHolder (s : State) : Option Station :=
  (upTo 4).find? fun st => (s.station st).editRequest && decide ((s.station st).yield = 0)

/-- The award step (R159, R160). -/
def awardGrant (s : State) : State :=
  match s.grant, s.nextHolder with
  | none, some st => broadcast .grantChange { s with grant := some st }
  | _, _ => s

/-- A yield count after the award step: it falls while the grant is FREE, and is held at 2 while it is held (R161). -/
def yieldAfter (grantFree : Bool) (y : Nat) : Nat :=
  if y = 0 then 0 else if grantFree then y - 1 else Config.yieldCount

/-- The yield step (R161). -/
def updateYields (s : State) : State :=
  { s with stations := s.stations.map fun x => { x with yield := yieldAfter s.grant.isNone x.yield } }

/-- A frame starts: the rest of the last frame passes, the link clock runs, the arbiter awards the grant and updates the
yield counts (R130, R159, R161). -/
def startFrame (s : State) : State :=
  let t := s.nextFrame
  updateYields (awardGrant { t with pins := { t.pins with lck := true } })

/-- The holder loses the grant: it becomes FREE, the yield count is set and GRANT-CHANGE is broadcast (R160). -/
def freeGrant (st : Station) (s : State) : State :=
  broadcast .grantChange
    ({ s with grant := none }.modStation st fun x => { x with yield := Config.yieldCount })

/-- FRAME_SYNC (R130). -/
def execFrameSync (s : State) : Host.Outcome State Fault Refusal := .next (unlessHeld startFrame s)

/-! ### The downstream slot (R131) -/

/-- The station's code lets entries be presented (R121, R135). -/
def Code.delivers : Code → Bool
  | .ready => true
  | .hold => false
  | .releaseAll => true
  | .cutAll => true
  | .absent => false

/-- The head of the waiting list enters an empty delivery position with the toggle opposite to the current echo (R121). -/
def StationState.presented (x : StationState) : StationState :=
  if x.code.delivers && x.delivery.isNone then
    match x.waiting with
    | [] => x
    | e :: w => { x with waiting := w, delivery := some (e, !x.echo) }
  else x

/-- A new response byte is offered with the opposite toggle (R145); an ABSENT station is offered none (R130, R139). -/
def StationState.offered (x : StationState) : StationState :=
  if x.lane = .sending ∧ x.onOffer = false ∧ x.code ≠ .absent then
    { x with onOffer := true, responseToggle := !x.responseToggle }
  else x

/-- A toggle or mark as a byte. -/
def bit (b : Bool) : Byte := byteOfBool b

/-- The kind field of an entry (R131). -/
def Entry.kindByte : Entry → Byte
  | .voice _ _ _ (.start _ _ _ _ _) => 1
  | .voice _ _ _ (.pitch _ _) => 2
  | .voice _ _ _ (.level _) => 3
  | .voice _ _ _ .release => 4
  | .voice _ _ _ .cut => 5
  | .sync => 6

/-- The voice and generation bytes of an incarnation, with the layer and player bits of a START (R131). -/
def incarnationBytes (i : Incarnation) (low : Byte) : List Byte :=
  [(byteOfNat i.voice.val <<< 3) ||| low, (i.gen.setWidth 8) <<< 4]

/-- Bytes 2 to 9 of a slot that presents an entry: fields that do not apply are zero (R112, R131). -/
def Entry.fieldBytes : Entry → List Byte
  | .voice i p _ (.start L pi b l g) =>
    incarnationBytes i ((byteOfNat L.val <<< 1) ||| playerBit p) ++ [byteOfNat pi] ++ bytesOfInt b ++ bytesOfNat l ++ [g]
  | .voice i _ _ (.pitch pi b) => incarnationBytes i 0 ++ [byteOfNat pi] ++ bytesOfInt b ++ [0, 0, 0]
  | .voice i _ _ (.level l) => incarnationBytes i 0 ++ [0, 0, 0] ++ bytesOfNat l ++ [0]
  | .voice i _ _ .release => incarnationBytes i 0 ++ List.replicate 6 0
  | .voice i _ _ .cut => incarnationBytes i 0 ++ List.replicate 6 0
  | .sync => List.replicate 8 0

/-- Bytes 1 to 9: the entry in flight where the code delivers, else IDLE with the current echo (R121, R131). -/
def eventBytes (x : StationState) : List Byte :=
  let low := bit x.returnToggle <<< 3
  match x.code.delivers, x.delivery with
  | true, some (e, t) => ((e.kindByte <<< 5) ||| (bit t <<< 4) ||| low) :: e.fieldBytes
  | _, _ => ((bit x.echo <<< 4) ||| low) :: List.replicate 8 0

/-- The message flag: IDLE 0, BODY 1, END 2, ABORT 3 (R131, R143, R145). An ABSENT station's slot carries no message
byte (R130); that its flag is IDLE whatever the lane holds is DEDUCED, unsafe (entry 20). -/
def messageFlag (x : StationState) : Byte :=
  if x.code = .absent then 0
  else
    match x.lane with
    | .receiving => 0
    | .refusing => 3
    | .sending => if x.position + 1 < x.response.length then 1 else 2

/-- The message byte (R143). -/
def messageByte (x : StationState) : Byte :=
  if x.code = .absent then 0
  else
    match x.lane with
    | .sending => x.response.getD x.position 0
    | .receiving => 0
    | .refusing => 0

/-- The XOR of bytes: a slot's check (R131, R133). -/
def checkByte (l : List Byte) : Byte := l.foldl (fun a b => a ^^^ b) 0

/-- Bytes 0 to 11 of a station's slot (R131). -/
def slotBody (s : State) (x : StationState) : List Byte :=
  [(s.partState.byte <<< 6) ||| (bit x.mark <<< 5) ||| (grantByte s.grant <<< 2)] ++ eventBytes x ++
    [messageByte x, (messageFlag x <<< 6) ||| (bit x.responseToggle <<< 4) ||| (bit x.requestToggle <<< 3)]

/-- The 13 bytes of a station's slot (R131). -/
def downstreamBytes (s : State) (x : StationState) : List Byte := slotBody s x ++ [checkByte (slotBody s x)]

/-- The state in which a station's slot is built: its entry presented and its response byte offered (R121, R145). -/
def prepareSlot (st : Station) (s : State) : State := s.modStation st fun x => x.presented.offered

/-- A station's slot is built and sent (R130, R131); LSY marks the slot of station 0 (R176). -/
def sendSlot (st : Station) (s : State) : State :=
  let t := prepareSlot st s
  let b := downstreamBytes t (t.station st)
  { t.modStation st (fun x => { x with sent := b }) with pins := { t.pins with ldo := b, lsy := decide (st = 0) } }

/-- DOWNSTREAM_SLOT: a station period begins (R131, R176). -/
def execDownstreamSlot (st : Station) (s : State) : Host.Outcome State Fault Refusal :=
  .next (unlessHeld (fun s => sendSlot st (s.advanceTo (Config.bitsPerPeriod * st.val))) s)

/-! ### The upstream slot (R132 to R145) -/

/-- The fields of an upstream slot (R132). -/
structure UpSlot where
  code : BitVec 4
  edit : Bool
  echo : Bool
  returnToggle : Bool
  valid : Bool
  voice : VoiceNo
  gen : BitVec 4
  message : Byte
  flag : BitVec 2
  toggle : Bool
  ack : Bool
deriving DecidableEq, Repr

/-- What the part receives: an open-drain line reads 1 where no station drives it and 0 where any drives 0 (R130,
R176). -/
def lineWord (drives : List (BitVec 48)) : BitVec 48 := drives.foldl (fun a b => a &&& b) (BitVec.allOnes 48)

/-- Byte `k` of a received slot, byte 0 first (R132). -/
def upByte (w : BitVec 48) (k : Nat) : Byte := w.extractLsb' (40 - 8 * k) 8

/-- The slot is good: its byte 5 is the XOR of its bytes 0 to 4 (R133). -/
def goodSlot (w : BitVec 48) : Bool := upByte w 5 == checkByte [upByte w 0, upByte w 1, upByte w 2, upByte w 3, upByte w 4]

/-- Reads a slot by its layout; the bits shown as 0 are not examined (R132). -/
def readSlot (w : BitVec 48) : UpSlot where
  code := (upByte w 0).extractLsb' 4 4
  edit := (upByte w 0).getLsbD 3
  echo := (upByte w 0).getLsbD 2
  returnToggle := (upByte w 0).getLsbD 1
  valid := (upByte w 1).getLsbD 7
  voice := ((upByte w 1).extractLsb' 2 5).toFin
  gen := (upByte w 2).extractLsb' 4 4
  message := upByte w 3
  flag := (upByte w 4).extractLsb' 6 2
  toggle := (upByte w 4).getLsbD 5
  ack := (upByte w 4).getLsbD 4

/-- The station code of a code field, none where it is not recognized (R135). -/
def codeOf (c : BitVec 4) : Option Code :=
  if c = 1 then some .ready
  else if c = 2 then some .hold
  else if c = 4 then some .releaseAll
  else if c = 5 then some .cutAll
  else if c = 15 then some .absent
  else none

/-- The message lane is reset (R139 step 2). -/
def StationState.laneReset (x : StationState) : StationState :=
  { x with lane := .receiving, request := [], response := [], position := 0, onOffer := false }

/-- A requested restart is carried out once its response has been taken or aborted, or its station is ABSENT: the lane
has left SENDING (R157). -/
def restartIfDue (st : Station) (s : State) : State :=
  if (s.station st).restartWaits ∧ (s.station st).lane = .receiving then restartWith .restartRequest s else s

/-- The arbiter's part of going ABSENT (R139 step 3). -/
def dropEdit (st : Station) (s : State) : State :=
  let t := s.modStation st fun x => { x with editRequest := false, editCandidate := none }
  if s.grant = some st then freeGrant st t else t

/-- A station's confirmed code becomes ABSENT: the actions of R139 in their order. -/
def goAbsent (st : Station) (s : State) : State :=
  let s0 := s.modStation st fun x => { x with code := .absent, candidate := none }
  let s1 := (flushQueue st s0).modStation st StationState.laneReset
  let s2 := dropEdit st s1
  let s3 := if st = s2.tables.renderer then rendererLoss s2 else s2
  broadcast .stationChange s3

/-- A bad slot: ignored but for the candidates, the counter and the run, which may lose the station (R133, R134,
R158). -/
def badSlot (st : Station) (s : State) : State :=
  let t := (s.modCounters fun c => { c with badSlots := c.badSlots.set st (countUp (c.badSlots.get st)) }).modStation st
    fun x => { x with badRun := min Config.lostRun (x.badRun + 1), candidate := none, editCandidate := none }
  if (t.station st).badRun = Config.lostRun ∧ t.present st then goAbsent st t else t

/-- A station leaving ABSENT takes its baselines from the confirming slot (R140). -/
def StationState.baselined (u : UpSlot) (x : StationState) : StationState :=
  { x with echo := u.echo, returnToggle := u.returnToggle, requestToggle := u.toggle, responseToggle := u.ack }

/-- The action of a confirmed present code (R135, R137). -/
def codeAction : Code → State → State
  | .releaseAll => releaseAll
  | .cutAll => cutAllCode
  | .ready => id
  | .hold => id
  | .absent => id

/-- A code is confirmed (R136, R137). -/
def confirmCode (st : Station) (c : Code) (u : UpSlot) (s : State) : State :=
  let t := s.modStation st fun x => { x with code := c, candidate := none }
  if c = .absent then goAbsent st s
  else if s.present st then codeAction c t
  else broadcast .stationChange (codeAction c (t.modStation st (StationState.baselined u)))

/-- The code of a good slot is taken: unrecognized, equal to the confirmed code, or looked at twice (R135, R136). -/
def takeCode (st : Station) (u : UpSlot) (s : State) : State :=
  match codeOf u.code with
  | none =>
    (s.modCounters fun c => { c with unrecognizedCodes := countUp c.unrecognizedCodes }).modStation st
      fun x => { x with candidate := none }
  | some c =>
    if c = (s.station st).code then s.modStation st fun x => { x with candidate := none }
    else if (s.station st).candidate = some c then confirmCode st c u s
    else s.modStation st fun x => { x with candidate := some c }

/-- The renderer's acknowledgement of a RELEASE reaches the voice pool, with the use the entry was appended for (entry
29); any other concerns the queue alone (R122). -/
def acknowledged (st : Station) (e : Entry) (s : State) : State :=
  match e with
  | .voice i _ use .release => if st = s.tables.renderer then releaseTaken i use s else s
  | .voice _ _ _ (.start _ _ _ _ _) => s
  | .voice _ _ _ (.pitch _ _) => s
  | .voice _ _ _ (.level _) => s
  | .voice _ _ _ .cut => s
  | .sync => s

/-- The event echo: it becomes the current echo, and acknowledges the in-flight entry when equal to its toggle (R121,
R141). -/
def takeEcho (st : Station) (echo : Bool) (s : State) : State :=
  let t := s.modStation st fun x => { x with echo := echo }
  match (s.station st).delivery with
  | some (e, tog) => if tog = echo then acknowledged st e (t.modStation st fun x => { x with delivery := none }) else t
  | none => t

/-- The return field, when its toggle is new (R142). -/
def takeReturnField (st : Station) (u : UpSlot) (s : State) : State :=
  if u.returnToggle = (s.station st).returnToggle then s
  else
    let t := s.modStation st fun x => { x with returnToggle := u.returnToggle }
    if u.valid ∧ st = s.tables.renderer then takeReturn u.voice u.gen t else t

/-- The edit-request bit's double look; a confirmed no of the holder releases the grant (R158, R160). -/
def lookEdit (st : Station) (b : Bool) (s : State) : State :=
  let x := s.station st
  if b = x.editRequest then s.modStation st fun x => { x with editCandidate := none }
  else if x.editCandidate = some b then
    let t := s.modStation st fun x => { x with editRequest := b, editCandidate := none }
    if b = false ∧ s.grant = some st then freeGrant st t else t
  else s.modStation st fun x => { x with editCandidate := some b }

/-- A complete request is executed and its response formed (R144, R150). -/
def executeRequest (st : Station) (bytes : List Byte) (s : State) : State :=
  match decodeRequest bytes with
  | .ok r => respond st (perform st r s)
  | .error .unknown => respond st (refuse .unknown s)
  | .error .length => respond st (refuse .length s)

/-- A new request byte in RECEIVING: accepted, or refused as the 41st (R144). -/
def acceptByte (st : Station) (u : UpSlot) (s : State) : State :=
  let x := s.station st
  if x.request.length < Config.requestCapacity then
    let bytes := x.request ++ [u.message]
    let t := s.modStation st fun x => { x with request := bytes, requestToggle := u.toggle }
    if u.flag = 2 then executeRequest st bytes t else t
  else s.modStation st fun x => { x with lane := .refusing, request := [] }

/-- A station's state after the response byte on offer is taken (R145). -/
def StationState.byteTaken (x : StationState) : StationState :=
  if x.position + 1 < x.response.length then { x with position := x.position + 1, onOffer := false } else x.laneReset

/-- The message fields, by the lane's state (R143 to R145). Flags: IDLE 0, BODY 1, END 2, ABORT 3. -/
def takeMessage (st : Station) (u : UpSlot) (s : State) : State :=
  let x := s.station st
  match x.lane with
  | .receiving =>
    if u.flag = 3 then s.modStation st fun x => { x with request := [] }
    else if u.flag ≠ 0 ∧ u.toggle ≠ x.requestToggle then acceptByte st u s
    else s
  | .sending =>
    if u.flag = 3 then s.modStation st StationState.laneReset
    else if x.onOffer ∧ u.ack = x.responseToggle then s.modStation st StationState.byteTaken
    else s
  | .refusing => if u.flag = 0 then s.modStation st StationState.laneReset else s

/-- One lane of a slot processed in full (R138). -/
def takeLane (st : Station) (u : UpSlot) : SlotLane → State → State
  | .echo => takeEcho st u.echo
  | .giveBack => takeReturnField st u
  | .edit => lookEdit st u.edit
  | .message => takeMessage st u

/-- The lanes in the order given, each once; one the order leaves out comes after. -/
def laneOrder (order : List SlotLane) : List SlotLane := (order ++ [SlotLane.echo, SlotLane.giveBack, SlotLane.edit, SlotLane.message]).eraseDups

/-- A good slot: the code first, then the other lanes if it is processed in full, else its edit-request candidate is
dropped (R138, R158). DESIGN CHOICE, safe (entry 3): `order` orders the lanes, which R138 lets go in any order. -/
def goodSlotWork (st : Station) (u : UpSlot) (order : List SlotLane) (s : State) : State :=
  let t := takeCode st u s
  if codeOf u.code ≠ some .absent ∧ t.present st then
    (laneOrder order).foldl (fun x l => takeLane st u l x) t
  else t.modStation st fun x => { x with editCandidate := none }

/-- An upstream slot is taken at its end (R130, R133, R138). -/
def takeSlot (st : Station) (w : BitVec 48) (order : List SlotLane) (s : State) : State :=
  restartIfDue st
    (if goodSlot w then goodSlotWork st (readSlot w) order (s.modStation st fun x => { x with badRun := 0 })
     else badSlot st s)

/-- The end of a station's upstream slot in the frame: the downstream slot is long over, LDO is low and so is LSY, also
for a sender that has brought no time to pass since the slot (R176). -/
def State.atSlotEnd (st : Station) (s : State) : State :=
  { s.advanceTo (Config.bitsPerPeriod * st.val + Config.upstreamEnd) with
    pins := { s.pins with ldo := [], lsy := false } }

/-- UPSTREAM_SLOT (R138). -/
def execUpstreamSlot (st : Station) (drives : List (BitVec 48)) (order : List SlotLane) (s : State) :
    Host.Outcome State Fault Refusal :=
  .next (unlessHeld (fun s => takeSlot st (lineWord drives) order (s.atSlotEnd st)) s)

/-- STATION_LOST: the bad slot that brings a present station's bad-slot run to 16 (R134). DEDUCED, safe (entry 7):
where one more bad slot does not bring it there, nothing happens. -/
def execStationLost (st : Station) (s : State) : Host.Outcome State Fault Refusal :=
  .next (unlessHeld
    (fun s =>
      if s.present st ∧ Config.lostRun ≤ (s.station st).badRun + 1 then restartIfDue st (badSlot st (s.atSlotEnd st))
      else s) s)

end Sys2Proof.Machine
end

