-- ==== Sys2Proof/Machine/Dispatch.lean ====
section
/-! DEFINITION. exec: one arm per command, each a direct call of the command's meaning. -/
namespace Sys2Proof.Machine

open Sys2Proof

def exec (i : Instr) (s : State) : Host.Outcome State Fault Refusal :=
  match i with
  | .sweepStart vref mouthpiece1 mouthpiece2 roundUp => Sys2Proof.Machine.execSweepStart vref mouthpiece1 mouthpiece2 roundUp s
  | .sweepCompletion => Sys2Proof.Machine.execSweepCompletion s
  | .faultEntry p t => Sys2Proof.Machine.execFaultEntry p t s
  | .faultExit p t => Sys2Proof.Machine.execFaultExit p t s
  | .warmupEnd p => Sys2Proof.Machine.execWarmupEnd p s
  | .captureCompletion p => Sys2Proof.Machine.execCaptureCompletion p s
  | .driftStep p => Sys2Proof.Machine.execDriftStep p s
  | .scanStart matrix1 matrix2 => Sys2Proof.Machine.execScanStart matrix1 matrix2 s
  | .scanCompletion holdFirst1 holdFirst2 => Sys2Proof.Machine.execScanCompletion holdFirst1 holdFirst2 s
  | .settleExpiry p => Sys2Proof.Machine.execSettleExpiry p s
  | .reclaim v => Sys2Proof.Machine.execReclaim v s
  | .frameSync => Sys2Proof.Machine.execFrameSync s
  | .downstreamSlot st => Sys2Proof.Machine.execDownstreamSlot st s
  | .upstreamSlot st drives order => Sys2Proof.Machine.execUpstreamSlot st drives order s
  | .stationLost st => Sys2Proof.Machine.execStationLost st s
  | .readStatus st => Sys2Proof.Machine.execReadStatus st s
  | .readCounters st => Sys2Proof.Machine.execReadCounters st s
  | .clearCounters st => Sys2Proof.Machine.execClearCounters st s
  | .readEntry st entry => Sys2Proof.Machine.execReadEntry st entry s
  | .writeEntry st entry fields => Sys2Proof.Machine.execWriteEntry st entry fields s
  | .clearEntry st entry => Sys2Proof.Machine.execClearEntry st entry s
  | .readChart st chart => Sys2Proof.Machine.execReadChart st chart s
  | .writeChart st chart fallback base => Sys2Proof.Machine.execWriteChart st chart fallback base s
  | .resolve st chart word => Sys2Proof.Machine.execResolve st chart word s
  | .readLayer st set layer => Sys2Proof.Machine.execReadLayer st set layer s
  | .writeLayer st set layer fields => Sys2Proof.Machine.execWriteLayer st set layer fields s
  | .readCurve st curve => Sys2Proof.Machine.execReadCurve st curve s
  | .writeCurve st curve points => Sys2Proof.Machine.execWriteCurve st curve points s
  | .readPlayer st player => Sys2Proof.Machine.execReadPlayer st player s
  | .writePlayer st player fields calibration => Sys2Proof.Machine.execWritePlayer st player fields calibration s
  | .zeroCapture st player => Sys2Proof.Machine.execZeroCapture st player s
  | .readPart st => Sys2Proof.Machine.execReadPart st s
  | .writePart st renderer steps => Sys2Proof.Machine.execWritePart st renderer steps s
  | .readRoute st station => Sys2Proof.Machine.execReadRoute st station s
  | .writeRoute st station mask => Sys2Proof.Machine.execWriteRoute st station mask s
  | .readVoice st voice => Sys2Proof.Machine.execReadVoice st voice s
  | .readPool st => Sys2Proof.Machine.execReadPool st s
  | .readAttention st => Sys2Proof.Machine.execReadAttention st s
  | .takeAttention st => Sys2Proof.Machine.execTakeAttention st s
  | .clearAttention st kinds => Sys2Proof.Machine.execClearAttention st kinds s
  | .maskAttention st kinds => Sys2Proof.Machine.execMaskAttention st kinds s
  | .unmaskAttention st kinds => Sys2Proof.Machine.execUnmaskAttention st kinds s
  | .signal st station => Sys2Proof.Machine.execSignal st station s
  | .storeImage st => Sys2Proof.Machine.execStoreImage st s
  | .storeStepDone => Sys2Proof.Machine.execStoreStepDone s
  | .storeBusyLimit => Sys2Proof.Machine.execStoreBusyLimit s
  | .loadImage st => Sys2Proof.Machine.execLoadImage st s
  | .loadBusyWaitEnd => Sys2Proof.Machine.execLoadBusyWaitEnd s
  | .loadBusyLimit => Sys2Proof.Machine.execLoadBusyLimit s
  | .loadHeaderRead answer => Sys2Proof.Machine.execLoadHeaderRead answer s
  | .loadBodyRead answer => Sys2Proof.Machine.execLoadBodyRead answer s
  | .restart st => Sys2Proof.Machine.execRestart st s
  | .restartRequest => Sys2Proof.Machine.execRestartRequest s
  | .powerOn => Sys2Proof.Machine.execPowerOn s
  | .resetAsserted lowNs => Sys2Proof.Machine.execResetAsserted lowNs s
  | .resetLine => Sys2Proof.Machine.execResetLine s

end Sys2Proof.Machine
end

