-- ==== Sys2Proof/Safety.lean ====
section
/-!
DEFINITION. What a safe run of the part is: the promises the rules make about the whole machine, each as a predicate of
the state. `State.Safe` gathers the ones that every step keeps.
-/
namespace Sys2Proof

/-- The request is marked G in the catalogue (R148). -/
def Request.marked : Request → Bool
  | .clearCounters => true
  | .writeEntry _ _ => true
  | .clearEntry _ => true
  | .writeChart _ _ _ => true
  | .writeLayer _ _ _ => true
  | .writeCurve _ _ => true
  | .writePlayer _ _ _ => true
  | .zeroCapture _ => true
  | .writePart _ _ => true
  | .writeRoute _ _ => true
  | .storeImage => true
  | .loadImage => true
  | .restart => true
  | _ => false

/-- The request is refused while a store runs (R150, check 5). -/
def Request.barredByStore : Request → Bool
  | .writeEntry _ _ => true
  | .clearEntry _ => true
  | .writeChart _ _ _ => true
  | .writeLayer _ _ _ => true
  | .writeCurve _ _ => true
  | .writePlayer _ _ _ => true
  | .writePart _ _ => true
  | .writeRoute _ _ => true
  | .loadImage => true
  | .storeImage => true
  | _ => false

/-- An index field of the request names no object (R150, check 6). -/
def Request.namesNothing : Request → Prop
  | .readEntry e => 191 < e.toNat
  | .writeEntry e f => 191 < e.toNat ∨ 3 < f.chart.toNat
  | .clearEntry e => 191 < e.toNat
  | .readChart c => 3 < c.toNat
  | .writeChart c _ _ => 3 < c.toNat
  | .resolve c _ => 3 < c.toNat
  | .readLayer y l => 7 < y.toNat ∨ 3 < l.toNat
  | .writeLayer y l f => 7 < y.toNat ∨ 3 < l.toNat ∨ 3 < f.curve.toNat
  | .readCurve c => 3 < c.toNat
  | .writeCurve c _ => 3 < c.toNat
  | .readPlayer p => p ≠ 1 ∧ p ≠ 2
  | .writePlayer p f _ => (p ≠ 1 ∧ p ≠ 2) ∨ 3 < f.chart.toNat ∨ 7 < f.layerSet.toNat
  | .zeroCapture p => p ≠ 1 ∧ p ≠ 2
  | .writePart r _ => 3 < r.toNat
  | .readRoute x => 3 < x.toNat
  | .writeRoute x _ => 3 < x.toNat
  | .readVoice v => 31 < v.toNat
  | .signal x => 3 < x.toNat
  | _ => False

end Sys2Proof

namespace Sys2Proof.Machine

open Sys2Proof

/-! ### Words for what a command is asked and answers -/

/-- RESET is not taken as asserted, and no load runs: requests are served (R150, R175). -/
def State.serves (s : State) : Prop := s.resetHeld = false ∧ s.partState ≠ .loading

/-- Requests are served and the station holds the grant (R150, check 4). -/
def State.edits (s : State) (st : Station) : Prop := s.serves ∧ s.grant = some st

/-- The station holds the grant in RUN: its writes are served (R150, checks 3 to 5). -/
def State.writes (s : State) (st : Station) : Prop := s.resetHeld = false ∧ s.partState = .run ∧ s.grant = some st

/-- A station's lane with a response in its buffer: SENDING, with the request buffer empty and no byte offered yet
(R144, R145). -/
def StationState.answering (bytes : List Byte) (x : StationState) : StationState :=
  { x with lane := .sending, request := [], response := bytes, position := 0, onOffer := false }

/-- The command changes nothing but the station's lane, which holds the response. That a request row executes whatever
the lane and the code are is the model's choice (entry 8). -/
def Answers (c : Instr) (st : Station) (s : State) (bytes : List Byte) : Prop :=
  exec c s = .next (s.modStation st (StationState.answering bytes))

/-- The command brings the state `t` about, with the response in the station's lane. -/
def Brings (c : Instr) (st : Station) (s t : State) (bytes : List Byte) : Prop :=
  exec c s = .next (t.modStation st (StationState.answering bytes))

/-- From `s` to `t` only players, voices, the two voice lists, stations' waiting lists and pending sets, and the counters of
steals, dropped layers, reclaims, overflows and sensor faults may differ: the frame of every event of the converter, the
scanner, the resolver, the articulation controller and the voice pool. -/
def PoolWorkOnly (s t : State) : Prop :=
  t = { s with
    players := t.players, voices := t.voices, freeList := t.freeList, startOrder := t.startOrder
    stations := t.stations, counters := t.counters } ∧
    (∀ st, t.station st =
      { s.station st with waiting := (t.station st).waiting, attention := (t.station st).attention }) ∧
    t.counters =
      { s.counters with
        steals := t.counters.steals, droppedLayers := t.counters.droppedLayers, reclaims := t.counters.reclaims
        overflows := t.counters.overflows, sensorFaults := t.counters.sensorFaults }

/-- What a sensor input reads against the reference `vref` (R177): 4095 from VREF up, 0 from GND down and unconnected,
and between them the count next to 4095 · v / VREF, exact where that is a count, else on the side that
`roundUp` gives (entry 1). -/
def Reads (vref : Nat) (roundUp : Bool) : SensorInput → Sample → Prop
  | .voltage v, y =>
    (vref ≤ v → y = 4095) ∧ (v ≤ 0 → y = 0) ∧
      (0 < v → v < vref → roundUp = true → 4095 * v ≤ y.toNat * vref ∧ y.toNat * vref < 4095 * v + vref) ∧
      (0 < v → v < vref → roundUp = false → 4095 * v - vref < y.toNat * vref ∧ y.toNat * vref ≤ 4095 * v)
  | .unconnected, y => y = 0

/-- Every table and setting stands at its built-in default (R172), but for the enabled settings, which are given. -/
def HoldsDefaults (t : Tables) (enabled : Player → Bool) : Prop :=
  (∀ i, t.entries.get i = { valid := false, chart := 0, care := 0, pattern := 0, pitch := 0 }) ∧
    (∀ c, t.charts.get c = { fallback := .hold, base := 60 }) ∧
    (∀ y L, (t.layers.get y).get L =
      if y = 0 ∧ L = 0 then
        { present := true, interval := 0, scale := 256, curve := 0, program := 0, low := 0, high := 127 }
      else { present := false, interval := 0, scale := 0, curve := 0, program := 0, low := 0, high := 127 }) ∧
    (∀ c i, (t.curves.get c).get i = [0, 128, 256, 384, 512, 640, 768, 896, 1023].getD i.val 0) ∧
    (∀ p, t.settings.get p =
      { enabled := enabled p, captureOnEnable := true, chart := 0, layerSet := 0, transpose := 0, settleMs := 8
        gain := 256, onThreshold := 200, offThreshold := 120, k := 4, deadBand := 4, mode := .legato, bendDepth := 64
        deadzone := 32, drift := true, reserve := 0 }) ∧
    t.renderer = 0 ∧ t.returnSteps = 30 ∧ ∀ st p, (t.routes.get st).get p = false

/-- Every field a rule gives a value after restart stands at that value (R16, R29, R46, R47, R50, R55, R84, R110, R111,
R147, R158, R163, R166), and the tables and settings at the values of R172 with the enabled settings off (R175). That a
voice's count of uses is 0 is the model's (entry 14). -/
def AtRestartValues (t : State) : Prop :=
  (∀ p, t.player p =
    { art := .disabled, note := none, breath := ⟨.normal, 0⟩, lip := ⟨.normal, 0⟩, warmup := 0, captureCount := 0
      breathSum := 0, lipSum := 0, breathTaint := false, lipTaint := false, captureFor := none, driftCount := 0
      driftSum := 0, offset := 300, centre := 2048, debounced := 0, marks := 0, takeOver := false, word := 0
      octave := 0, held := false, settle := none, resolved := 0, n := 0, bend := 0, lastBend := 0 }) ∧
    t.sweep = none ∧ t.scan = none ∧
    (∀ v, t.voice v =
      { state := .free, gen := 0, player := .p1, layer := 0, pitch := 0, bend := 0, level := 0, program := 0
        curve := 0, scale := 0, s := 0, lastLevel := 0, releaseTaken := false, timer := none, use := 0 }) ∧
    t.freeList.map Fin.val = List.range 32 ∧ t.startOrder = [] ∧
    HoldsDefaults t.tables (fun _ => false) ∧
    (∀ st, let x := t.station st
      x.code = .absent ∧ x.candidate = none ∧ x.badRun = 0 ∧ x.echo = false ∧ x.returnToggle = false ∧
        x.lane = .receiving ∧ x.request = [] ∧ x.response = [] ∧ x.requestToggle = false ∧ x.responseToggle = false ∧
        x.waiting = [] ∧ x.delivery = none ∧ x.editRequest = false ∧ x.editCandidate = none ∧ x.yield = 0 ∧
        x.attention = 0 ∧ ∀ k, k < 14 → x.masked.getLsbD k = true) ∧
    t.grant = none ∧ t.counters = ⟨0, 0, 0, 0, 0, 0, 0, 0, 0, Tab.const 4 0⟩ ∧ t.partState = .loading ∧
    t.store = none ∧ t.snapshot = [] ∧ t.storeFor = none

/-- A mark of the route goes on. -/
def gainsRoute (old new : Pair Bool) : Prop := (old.p1 = false ∧ new.p1 = true) ∨ (old.p2 = false ∧ new.p2 = true)

/-- The waiting entries that stay when a route changes: those of a player whose mark goes off do not (R114). -/
def keptOnRoute (old new : Pair Bool) (w : List Entry) : List Entry :=
  w.filter fun e => !((old.p1 && !new.p1 && e.isOf .p1) || (old.p2 && !new.p2 && e.isOf .p2))

/-- A station's waiting list and pending set at a load's end: a newly named renderer loses its waiting entries (R128); at
every other station the removals of its route change come first, then the SYNC, which overflows a full queue (R114,
R125); IMAGE-DEFAULTED is set for a present station where the defaults are taken. -/
def QueueAfterLoad (s : State) (new : Tables) (defaulted : Bool) (st : Station) (y : StationState) : Prop :=
  let x := s.station st
  let old := s.tables.routes.get st
  let on := new.routes.get st
  let list := if new.renderer ≠ s.tables.renderer ∧ st = new.renderer then [] else x.waiting
  let kept := keptOnRoute old on list
  let told : BitVec 14 := if defaulted = true ∧ x.code ≠ .absent then 0x1000 else 0
  (st = new.renderer → y.waiting = list ∧ y.attention = x.attention ||| told) ∧
    (st ≠ new.renderer → ¬ gainsRoute old on ∨ x.code = .absent →
      y.waiting = kept ∧ y.attention = x.attention ||| told) ∧
    (st ≠ new.renderer → gainsRoute old on → x.code ≠ .absent → kept.length < 160 →
      y.waiting = kept ++ [.sync] ∧ y.attention = x.attention ||| told) ∧
    (st ≠ new.renderer → gainsRoute old on → x.code ≠ .absent → 160 ≤ kept.length →
      y.waiting = [.sync] ∧ y.attention = x.attention ||| told ||| 4)

/-- What the end of a load leaves: the new tables and calibration values whole, RUN with no load in progress and the
memory deselected, every player that the new settings enable in WARMUP from count 0 with its keywork to be taken over,
the others as they were; of the stations only waiting lists and pending sets move, as `QueueAfterLoad` says, and
everything else stands (R171). -/
def LoadEnds (s t : State) (new : Tables) (offset centre : Player → Nat) (defaulted : Bool) : Prop :=
  t = { s with
    tables := new, partState := .run, load := none, port := [], pins := { s.pins with msl := true, mck := false }
    players := t.players, stations := t.stations
    counters := { s.counters with overflows := t.counters.overflows } } ∧
    (∀ st, t.station st =
      { s.station st with waiting := (t.station st).waiting, attention := (t.station st).attention } ∧
        QueueAfterLoad s new defaulted st (t.station st)) ∧
    ∀ p, let on := (new.settings.get p).enabled
      t.player p =
        { s.player p with
          offset := offset p, centre := centre p
          art := if on then .warmup else (s.player p).art
          warmup := if on then 0 else (s.player p).warmup
          takeOver := if on then true else (s.player p).takeOver }

/-- What a settle expiry or an immediate resolution does for a player with a note record: the timer stands stopped, the
note resolved pitch and the record's source are those of the resolution, and where the base pitch differs from the
record's a pitch change follows (R55, R57, R58). -/
def Resolves (p : Player) (s t : State) : Prop :=
  ∀ r, (s.player p).note = some r →
    let noted := s.modPlayer p fun q =>
      { q with settle := none, resolved := s.playerResolved p, note := some { r with source := s.playerSource p } }
    (s.playerBase p = r.base → t = noted) ∧ (s.playerBase p ≠ r.base → t = pitchChange p (s.playerBase p) noted)

/-- Every SOUNDING player is moved to QUIET, its note record dropped and its settle timer stopped (R79, R80). -/
def quieted (s : State) : State :=
  let quiet : PlayerState → PlayerState := fun q =>
    if q.art = .sounding then { q with art := .quiet, note := none, settle := none } else q
  (s.modPlayer .p1 quiet).modPlayer .p2 quiet

/-! ### The voice pool -/

/-- The free list and the start-order list hold each voice once: the free list the FREE voices, the start-order list
the others (R87, R88). -/
def PoolInv (s : State) : Prop :=
  (s.freeList ++ s.startOrder).Nodup ∧
    ∀ v, (v ∈ s.freeList ↔ (s.voice v).state = .free) ∧ (v ∈ s.startOrder ↔ (s.voice v).state ≠ .free)

/-- A note record is present exactly while its player is SOUNDING; each voice it names is ACTIVE, belongs to that player
and layer and carries the generation recorded; each ACTIVE voice is named by its player's record (R66, R86). -/
def NoteInv (s : State) : Prop :=
  ∀ p, ((s.player p).note.isSome ↔ (s.player p).art = .sounding) ∧
    (∀ L i, s.slot p L = some i →
      (s.voice i.voice).state = .active ∧ (s.voice i.voice).player = p ∧ (s.voice i.voice).layer = L ∧
        (s.voice i.voice).gen = i.gen) ∧
    (∀ v, (s.voice v).state = .active → (s.voice v).player = p →
      s.slot p (s.voice v).layer = some ⟨v, (s.voice v).gen⟩)

/-- A settle timer runs only while its player is SOUNDING (R56, R61); release-taken is set, and the return timer runs,
only for a RELEASING voice, and the two go together (R98, R99). -/
def TimerInv (s : State) : Prop :=
  (∀ p, (s.player p).settle.isSome → (s.player p).art = .sounding) ∧
    ∀ v, ((s.voice v).releaseTaken = true → (s.voice v).state = .releasing) ∧
      ((s.voice v).timer.isSome ↔ (s.voice v).releaseTaken = true)

/-- Without a present renderer station, and while a load runs, every voice is FREE (R106, R107). -/
def IdlePoolInv (s : State) : Prop :=
  s.rendererPresent = false ∨ s.partState = .loading → ∀ v, (s.voice v).state = .free

/-- What a station's going ABSENT leaves: its queue flushed, its lane reset, its edit request no and its grant free;
STATION-CHANGE at every other present station; for the renderer every voice cut in start order in the queues of the
others, RENDERER-LOST, and no player SOUNDING; of the other stations only waiting lists and pending sets move (R80, R107,
R127, R139, R160). -/
def GoesAbsent (st : Station) (s t : State) : Prop :=
  let y := t.station st
  let gone := s.modStation st fun x => { x with code := .absent, waiting := [], delivery := none }
  y.code = .absent ∧ y.candidate = none ∧ y.waiting = [] ∧ y.delivery = none ∧ y.lane = .receiving ∧ y.request = [] ∧
    y.response = [] ∧ y.editRequest = false ∧ y.editCandidate = none ∧
    (s.grant = some st → t.grant = none ∧ y.yield = 2) ∧ (s.grant ≠ some st → t.grant = s.grant) ∧
    t.tables = s.tables ∧ t.flash = s.flash ∧ t.partState = s.partState ∧
    (∀ o, o ≠ st → t.station o = { s.station o with
      waiting := (t.station o).waiting, attention := (t.station o).attention }) ∧
    (∀ o, o ≠ st → (s.station o).code ≠ .absent → (t.station o).attention.getLsbD 7 = true ∧
      (s.grant = some st → (t.station o).attention.getLsbD 8 = true) ∧
      (st = s.tables.renderer → (t.station o).attention.getLsbD 0 = true)) ∧
    (st ≠ s.tables.renderer → (∀ p L, t.slot p L = s.slot p L) ∧ (∀ v, (t.voice v).state = (s.voice v).state) ∧
      (∀ p, (t.player p).art = (s.player p).art) ∧ ∀ o, o ≠ st → (t.station o).waiting = (s.station o).waiting) ∧
    (st = s.tables.renderer →
      (∀ o, o ≠ st → (t.station o).waiting =
        ((s.startOrder.foldl (fun x v => cutVoice v x) gone).station o).waiting) ∧
      (∀ p, (t.player p).art = if (s.player p).art = .sounding then .quiet else (s.player p).art) ∧
      (PoolInv s → ∀ v, (t.voice v).state = .free))

/-! ### Part state -/

/-- A player is DISABLED exactly while its enabled setting is off; a load runs only in LOADING, with both players
disabled; a store runs exactly in STORING (R65, R84, R155, R169). The memory is selected and clocked exactly during the
header read and the body read of a load (R167, R170, R179). -/
def PartInv (s : State) : Prop :=
  (∀ p, (s.player p).art = .disabled ↔ (s.settings p).enabled = false) ∧
    (s.partState = .loading → ∀ p, (s.settings p).enabled = false) ∧
    (s.load.isSome → s.partState = .loading) ∧
    (s.store.isSome ↔ s.partState = .storing) ∧
    (s.pins.msl = false ↔ s.load = some .header ∨ ∃ sum, s.load = some (.body sum)) ∧ s.pins.mck = !s.pins.msl

/-- While RESET is taken as asserted the part stands at its restart values; only the cause of the latest restart, the
image memory and the commands that wait are its own (R175, R179). -/
def HeldInv (s : State) : Prop :=
  s.resetHeld = true →
    s = { State.reset with
      pending := s.pending, flash := s.flash, cause := s.cause, load := none, port := [], resetHeld := true
      heldFromPowerUp := s.heldFromPowerUp }

/-! ### The link and the queues -/

/-- An ABSENT station has an empty queue, nothing in flight and no edit request (R127, R139, R158). -/
def AbsentInv (s : State) : Prop :=
  ∀ st, (s.station st).code = .absent →
    (s.station st).waiting = [] ∧ (s.station st).delivery = none ∧ (s.station st).editRequest = false ∧
      (s.station st).editCandidate = none

/-- The holder of the grant is present and its confirmed edit request is yes (R159, R160). -/
def GrantInv (s : State) : Prop :=
  ∀ st, s.grant = some st → (s.station st).code ≠ .absent ∧ (s.station st).editRequest = true

/-- The shapes that one use of a voice may have in a waiting list, as kind bytes: 1 START, 2 PITCH, 3 LEVEL, 4 RELEASE,
5 CUT (R120). A route removal or an overflow may leave less, never more. -/
def useShapes : List (List Byte) :=
  [[], [1], [1, 4], [2], [3], [2, 3], [3, 2], [4], [2, 4], [3, 4], [2, 3, 4], [3, 2, 4], [5]]

/-- The kinds of the waiting entries of one use of a voice, front to back. -/
def useKinds (v : VoiceNo) (use : Nat) (w : List Entry) : List Byte := (w.filter (Entry.ofUse v use)).map Entry.kindByte

/-- Each use of a voice stands in each waiting list in one of the shapes of R120; no entry belongs to a use yet to come;
no RELEASE of the present use waits while the voice is ACTIVE or HELD, and no CUT of it unless the voice is FREE (R97,
R118, R119). -/
def QueueInv (s : State) : Prop :=
  ∀ st v use,
    let kinds := useKinds v use (s.station st).waiting
    kinds ∈ useShapes ∧
      (kinds ≠ [] → use ≤ (s.voice v).use) ∧
      (use = (s.voice v).use →
        (4 ∈ kinds → (s.voice v).state = .releasing ∨ (s.voice v).state = .free) ∧
          (5 ∈ kinds → (s.voice v).state = .free))

/-- The entry belongs to voice `v`. -/
def Entry.isOfVoice (v : VoiceNo) : Entry → Bool
  | .voice i _ _ _ => decide (i.voice = v)
  | .sync => false

/-- What the renderer's queue holds for each voice (R129). No SYNC waits there. The entries of a voice are those of its
present use, or a CUT of an earlier use before them; with such a CUT the present use has its START waiting, or has
nothing waiting and the voice is FREE. A FREE voice has at most a CUT waiting, and a voice whose RELEASE the renderer has
taken has nothing. No entry in flight belongs to a use yet to come, and behind an in-flight RELEASE of the present use
nothing waits until the voice is FREE. -/
def RendererInv (s : State) : Prop :=
  let q := s.station s.tables.renderer
  Entry.sync ∉ q.waiting ∧
    (∀ v, let x := s.voice v
      let mine := q.waiting.filter (Entry.isOfVoice v)
      let own := q.waiting.filter (Entry.ofUse v x.use)
      (mine = own ∨ ∃ c, mine = c :: own ∧ c.isCut = true ∧
        if own = [] then x.state = .free else own.any Entry.isStart = true) ∧
      (x.state = .free → mine.length ≤ 1 ∧ mine.all Entry.isCut = true) ∧
      (x.state = .releasing → x.releaseTaken = true → mine = [])) ∧
    (∀ st i p use ev tog, (s.station st).delivery = some (.voice i p use ev, tog) →
      use ≤ (s.voice i.voice).use ∧
        (st = s.tables.renderer → ev = .release → use = (s.voice i.voice).use →
          (s.voice i.voice).state = .free ∨
            ((s.voice i.voice).state = .releasing ∧ q.waiting.filter (Entry.isOfVoice i.voice) = [])))

/-! ### Ranges -/

/-- Every table field and setting lies in its range (R48, R151), and an off-threshold below its on-threshold (R67). -/
def TablesInRange (t : Tables) : Prop :=
  (∀ i, (t.entries.get i).pitch ≤ 127 ∧ (t.entries.get i).pattern &&& (t.entries.get i).care = (t.entries.get i).pattern) ∧
    (∀ c, (t.charts.get c).base ≤ 127) ∧
    (∀ y L, let z := (t.layers.get y).get L
      z.interval ≤ 36 ∧ -36 ≤ z.interval ∧ z.scale ≤ 256 ∧ z.low ≤ 127 ∧ z.high ≤ 127) ∧
    (∀ c i, (t.curves.get c).get i ≤ 1023) ∧
    (∀ p, let x := t.settings.get p
      x.transpose ≤ 24 ∧ -24 ≤ x.transpose ∧ x.settleMs ≤ 30 ∧ x.gain ≤ 1023 ∧ x.onThreshold ≤ 4095 ∧
        x.offThreshold < x.onThreshold ∧ 1 ≤ x.k ∧ x.k ≤ 16 ∧ 1 ≤ x.deadBand ∧ x.deadBand ≤ 64 ∧ x.bendDepth ≤ 255 ∧
        x.deadzone ≤ 511 ∧ x.reserve ≤ 16) ∧
    1 ≤ t.returnSteps ∧ t.returnSteps ≤ 50

/-- A player's values lie in their ranges: the converter's counts and sums short of the count that completes them,
calibration values (R6), octave offset (R20), n and bend (R32, R40), pitches (R42), the settle timer (R56). -/
def PlayerInRange (q : PlayerState) : Prop :=
  q.breath.run < 64 ∧ q.lip.run < 64 ∧ q.warmup < 8 ∧ q.captureCount < 16 ∧ q.breathSum ≤ 4095 * q.captureCount ∧
    q.lipSum ≤ 4095 * q.captureCount ∧ q.driftCount < 256 ∧ q.driftSum ≤ 4095 * q.driftCount ∧ q.offset ≤ 4095 ∧
    q.centre ≤ 4095 ∧ -3 ≤ q.octave ∧ q.octave ≤ 3 ∧ q.resolved ≤ 127 ∧ q.n ≤ 4095 ∧ -200 ≤ q.bend ∧ q.bend ≤ 200 ∧
    -200 ≤ q.lastBend ∧ q.lastBend ≤ 200 ∧ (∀ r, q.note = some r → r.base ≤ 127) ∧
    (∀ d, q.settle = some d → d ≤ 30 * Config.bitsPerMs)

/-- A voice's values lie in their ranges (R34, R36, R38, R40, R42, R99). -/
def VoiceInRange (x : Voice) : Prop :=
  x.pitch ≤ 127 ∧ -200 ≤ x.bend ∧ x.bend ≤ 200 ∧ x.level ≤ 1023 ∧ x.scale ≤ 256 ∧ x.s ≤ 1023 ∧ x.lastLevel ≤ 1023 ∧
    (∀ d, x.timer = some d → d ≤ 5000 * Config.bitsPerMs)

/-- The tables, the players and the voices hold values in their ranges. -/
def RangeInv (s : State) : Prop :=
  TablesInRange s.tables ∧ (∀ p, PlayerInRange (s.player p)) ∧ ∀ v, VoiceInRange (s.voice v)

/-- A station's counts and buffers lie in their ranges (R133, R144, R148, R160). -/
def StationInRange (x : StationState) : Prop :=
  x.badRun ≤ 16 ∧ x.request.length ≤ 40 ∧ x.response.length ≤ 43 ∧ (x.lane = .sending → x.position < x.response.length) ∧
    x.yield ≤ 2 ∧ (x.sent = [] ∨ x.sent.length = 13)

/-- Every counter lies in 0 to 65535 (R166). -/
def CountersInRange (c : Counters) : Prop :=
  c.steals ≤ 65535 ∧ c.droppedLayers ≤ 65535 ∧ c.reclaims ≤ 65535 ∧ c.earlyReturns ≤ 65535 ∧ c.lateReturns ≤ 65535 ∧
    c.staleReturns ≤ 65535 ∧ c.overflows ≤ 65535 ∧ c.sensorFaults ≤ 65535 ∧ c.unrecognizedCodes ≤ 65535 ∧
    ∀ st, c.badSlots.get st ≤ 65535

/-- The link's counts and the counters lie in their ranges, and the place in the frame lies within the frame. -/
def LinkInv (s : State) : Prop :=
  (∀ st, StationInRange (s.station st)) ∧ CountersInRange s.counters ∧ s.bitTime ≤ Config.bitsPerFrame

/-- The image memory is held in its canonical form. -/
def FlashInv (s : State) : Prop := Memory.wf s.flash = true

/-- Every promise together. -/
def State.Safe (s : State) : Prop :=
  PoolInv s ∧ NoteInv s ∧ TimerInv s ∧ IdlePoolInv s ∧ PartInv s ∧ HeldInv s ∧ AbsentInv s ∧ GrantInv s ∧ QueueInv s ∧
    RangeInv s ∧ LinkInv s ∧ FlashInv s

end Sys2Proof.Machine
end

