-- ==== Sys2Proof/Certificates/Slice0/Obligations.lean ====
section
/-!
DEFINITION. The statements for the provers. Each docstring names the rules of spec/ it formalises, and says so where it
states a choice of the model (with the log entry).
-/
open Sys2Proof Sys2Proof.Machine

/-! ### The queue of commands and the whole machine -/

/-- A step executes the command at the front of the queue with the rest of the queue. On an empty queue the part idles,
which is the model's choice (entry 18). -/
def Obligations.StepRunsFrontCommand : Prop :=
  ∀ s : State,
    (∀ c rest, s.pending = c :: rest → step s = exec c { s with pending := rest }) ∧
      (s.pending = [] → step s = .next s)

/-- Every command of the table answers a next state, in every state, and leaves the waiting commands alone: none is
refused, none faults (95_what_each_step_holds.md; R150 answers a refused request with a status byte). -/
def Obligations.EveryCommandAnswers : Prop :=
  ∀ (c : Instr) (s : State), ∃ t, exec c s = .next t ∧ t.pending = s.pending

/-- While RESET is taken as asserted, every command but POWER_ON, RESET_ASSERTED and RESET_LINE leaves the part as it
stands (R175, R179). -/
def Obligations.HeldPartWaits : Prop :=
  ∀ (c : Instr) (s : State), s.resetHeld = true → c ≠ .powerOn → (∀ n, c ≠ .resetAsserted n) → c ≠ .resetLine →
    exec c s = .next s

/-- The four restart commands. Each restart puts every block at its restart values, the tables and settings at the
defaults with both players off, records its cause, deselects the memory, begins a load with its busy wait and keeps the
image memory; RESET low for at least 1 µs holds the part at those values with no load begun and the signals at rest, a
shorter low does nothing, and the release of a line not taken as asserted does nothing (R16, R29, R46, R84, R110, R147,
R172, R175, R179). That POWER_ON under an asserted line leaves the part held, and that the release then gives the cause
POWER-ON, is the model's reading (entry 17); the count of uses at 0 is the model's (entry 14). -/
def Obligations.RestartReturnsValues : Prop :=
  ∀ s : State,
    (s.resetHeld = false → ∀ c cause, (c, cause) ∈
        [(Instr.restartRequest, RestartCause.restartRequest), (Instr.powerOn, RestartCause.powerOn)] →
      ∃ t, exec c s = .next t ∧ AtRestartValues t ∧ t.cause = cause ∧ t.load = some (.busyWait 0) ∧
        t.resetHeld = false ∧ t.flash = s.flash ∧ t.pins.msl = true) ∧
      (s.resetHeld = true →
        (∃ t, exec .resetLine s = .next t ∧ AtRestartValues t ∧
          t.cause = (if s.heldFromPowerUp then .powerOn else .resetLine) ∧ t.load = some (.busyWait 0) ∧
          t.resetHeld = false ∧ t.flash = s.flash ∧ t.pins.msl = true) ∧
        (∃ t, exec .powerOn s = .next t ∧ AtRestartValues t ∧ t.resetHeld = true ∧ t.heldFromPowerUp = true ∧
          t.flash = s.flash)) ∧
      (s.resetHeld = false → exec .resetLine s = .next s) ∧
      (∀ lowNs, lowNs < 1000 → exec (.resetAsserted lowNs) s = .next s) ∧
      (∀ lowNs, 1000 ≤ lowNs → ∃ t, exec (.resetAsserted lowNs) s = .next t ∧ AtRestartValues t ∧ t.load = none ∧
        t.resetHeld = true ∧ t.flash = s.flash ∧ t.pins.lck = false ∧ t.pins.lsy = false ∧ t.pins.ldo = [] ∧
        t.pins.kd = [0xFF] ∧ t.pins.msl = true ∧ t.pins.mck = false)

/-! ### Encodings -/

/-- The bytes of every request decode to that request, every field at every value; and a request has one spelling: bytes
that decode to it are its bytes (R148). The catalogue of R148 as codes with the lengths they allow, code byte included:
a message decodes exactly when its code is in the catalogue and its length is one the code allows; else it is UNKNOWN
where the code is not there, and LENGTH where it is (R150, checks 1 and 2). -/
def Obligations.CatalogueCodesAndLengths : Prop :=
  let catalogue : List (Byte × List Nat) :=
    [(0x01, [1]), (0x02, [1]), (0x03, [1]), (0x10, [2]), (0x11, [11]), (0x12, [2]), (0x13, [2]), (0x14, [4]),
      (0x15, [5]), (0x20, [3]), (0x21, [11]), (0x22, [2]), (0x23, [20]), (0x30, [2]), (0x31, [22, 26]), (0x32, [2]),
      (0x40, [1]), (0x41, [3]), (0x42, [2]), (0x43, [3]), (0x50, [2]), (0x51, [1]), (0x60, [1]), (0x61, [1]),
      (0x62, [3]), (0x63, [3]), (0x64, [3]), (0x65, [2]), (0x70, [1]), (0x71, [1]), (0x72, [1])]
  (∀ r : Request, decodeRequest (encodeRequest r) = .ok r) ∧
    (∀ (bytes : List Byte) (r : Request), decodeRequest bytes = .ok r → encodeRequest r = bytes) ∧
    ∀ (code : Byte) (l : List Byte),
      ((∃ r, decodeRequest (code :: l) = .ok r) ↔ ∃ lens, (code, lens) ∈ catalogue ∧ l.length + 1 ∈ lens) ∧
        (decodeRequest (code :: l) = .error .unknown ↔ ∀ lens, (code, lens) ∉ catalogue) ∧
        (decodeRequest (code :: l) = .error .length ↔ ∃ lens, (code, lens) ∈ catalogue ∧ l.length + 1 ∉ lens)

/-- An image holds everything: the body formed from tables, settings and calibration values in range has 2118 bytes and
reads back as the same tables, settings and calibration values, nothing corrected (R168, R171). A byte of the image
memory reads what was written there last, and a write of consecutive bytes is read back whole, every other byte as
before: that the memory keeps what it was given is the model's choice (entry 11). What any body gives, its fields in
range or not: each record read at its place, most significant byte first; every field at the nearest value of its
range, yes/no, fallback and mode fields 1 where above it, the off-threshold below the clamped on-threshold, chart,
layer-set, curve and renderer fields at their highest index, each pattern within its care mask, a route mask's higher
bits cleared (R48, R151, R168, R171). -/
def Obligations.ImageHoldsTables : Prop :=
  (∀ s : State, RangeInv s →
    (imageBody s).length = 2118 ∧ tablesOfBody (imageBody s) = s.tables ∧
      ∀ p, calibrationOf (calibrationOfBody (imageBody s) p).offset = (s.player p).offset ∧
        calibrationOf (calibrationOfBody (imageBody s) p).centre = (s.player p).centre) ∧
    (∀ (m : List Host.Cell) (a : Nat) (l : List Byte), Memory.wf m = true →
      Memory.readBytes (Memory.writeBytes m a l) a l.length = l ∧
        ∀ b, b < a ∨ a + l.length ≤ b → Memory.read (Memory.writeBytes m a l) b = Memory.read m b) ∧
    ∀ body : List Byte,
      let t := tablesOfBody body
      let byte := fun k : Nat => body.getD k 0
      let nat := fun k : Nat => (byte k).toNat
      let two := fun k : Nat => 256 * nat k + nat (k + 1)
      let keys := fun k : Nat => byte k ++ byte (k + 1) ++ byte (k + 2)
      (∀ i : EntryNo, let k := 9 * i.val
        let e := t.entries.get i
        e.valid = decide (byte k ≠ 0) ∧ e.chart.val = min 3 (nat (k + 1)) ∧ e.care = keys (k + 2) ∧
          e.pattern = keys (k + 5) &&& keys (k + 2) ∧ e.pitch = min 127 (nat (k + 8))) ∧
      (∀ c : Fin 4, let k := 1728 + 2 * c.val
        t.charts.get c = { fallback := if byte k = 0 then .hold else .base, base := min 127 (nat (k + 1)) }) ∧
      (∀ (y : Fin 8) (L : LayerNo), let k := 1736 + 8 * (4 * y.val + L.val)
        let z := (t.layers.get y).get L
        z.present = decide (byte k ≠ 0) ∧ z.interval = max (-36) (min 36 (byte (k + 1)).toInt) ∧
          z.scale = min 256 (two (k + 2)) ∧ z.curve.val = min 3 (nat (k + 4)) ∧ z.program = byte (k + 5) ∧
          z.low = min 127 (nat (k + 6)) ∧ z.high = min 127 (nat (k + 7))) ∧
      (∀ (c : Fin 4) (i : Fin 9), (t.curves.get c).get i = min 1023 (two (1992 + 18 * c.val + 2 * i.val))) ∧
      (∀ p : Player, let k := match p with | .p1 => 2064 | .p2 => 2088
        let x := t.settings.get p
        let on := max 1 (min 4095 (two (k + 8)))
        x.enabled = decide (byte k ≠ 0) ∧ x.captureOnEnable = decide (byte (k + 1) ≠ 0) ∧
          x.chart.val = min 3 (nat (k + 2)) ∧ x.layerSet.val = min 7 (nat (k + 3)) ∧
          x.transpose = max (-24) (min 24 (byte (k + 4)).toInt) ∧ x.settleMs = min 30 (nat (k + 5)) ∧
          x.gain = min 1023 (two (k + 6)) ∧ x.onThreshold = on ∧ x.offThreshold = min (on - 1) (two (k + 10)) ∧
          x.k = max 1 (min 16 (nat (k + 12))) ∧ x.deadBand = max 1 (min 64 (nat (k + 13))) ∧
          x.mode = (if byte (k + 14) = 0 then .legato else .retrigger) ∧ x.bendDepth = nat (k + 15) ∧
          x.deadzone = min 511 (two (k + 16)) ∧ x.drift = decide (byte (k + 18) ≠ 0) ∧
          x.reserve = min 16 (nat (k + 19)) ∧
          calibrationOf (calibrationOfBody body p).offset = min 4095 (two (k + 20)) ∧
          calibrationOf (calibrationOfBody body p).centre = min 4095 (two (k + 22))) ∧
      t.renderer.val = min 3 (nat 2112) ∧ t.returnSteps = max 1 (min 50 (nat 2113)) ∧
      ∀ st : Station, t.routes.get st = ⟨(byte (2114 + st.val)).getLsbD 0, (byte (2114 + st.val)).getLsbD 1⟩

/-! ### Sensing -/

/-- SWEEP_START fixes the players converted (the enabled ones), which of them are in CAPTURE, and the samples of the four
inputs, all against the one VREF it is given: in proportion to the voltage over VREF between GND and VREF, 4095 from
VREF up, 0 from GND down and unconnected. Nothing else changes, so another VREF changes the four samples alone (R1, R7,
R177). The side to which a proportion is rounded is an operand's (entry 1), and that a sweep started while one is in
progress takes its place is the model's choice (entry 16). -/
def Obligations.SweepStartFixesChannels : Prop :=
  ∀ s : State, s.resetHeld = false → ∃ players captures : Pair Bool,
    (∀ p, players.get p = (s.settings p).enabled) ∧ (∀ p, captures.get p = true ↔ (s.player p).art = .capture) ∧
    ∀ (vref : Nat) (m1 m2 : Mouthpiece) (up : Pair (Bool × Bool)), 0 < vref → ∃ y : Pair (Sample × Sample),
      exec (.sweepStart vref m1 m2 up) s = .next { s with sweep := some ⟨players, captures, y⟩ } ∧
      Reads vref up.p1.1 m1.breath y.p1.1 ∧ Reads vref up.p1.2 m1.lip y.p1.2 ∧
      Reads vref up.p2.1 m2.breath y.p2.1 ∧ Reads vref up.p2.2 m2.lip y.p2.2

/-- SWEEP_COMPLETION does player 1's whole work before player 2's, each only for a player whose channels were
converted; with nobody converted it hands nothing on, and for a DISABLED player too. Tables, image memory, grant, part
state and the keywork stand (R1, R2). -/
def Obligations.SweepTakesPlayersInOrder : Prop :=
  ∀ (w : Sweep) (s : State), s.resetHeld = false → s.sweep = some w →
    let t := convertedWork .p2 w (convertedWork .p1 w { s with sweep := none })
    exec .sweepCompletion s = .next t ∧ PoolWorkOnly { s with sweep := none } t ∧
      (∀ p, let q := s.player p
        ((t.player p).debounced, (t.player p).marks, (t.player p).takeOver, (t.player p).word, (t.player p).octave,
          (t.player p).held) = (q.debounced, q.marks, q.takeOver, q.word, q.octave, q.held)) ∧
      (∀ p t, w.set.get p = false → convertedWork p w t = t) ∧
      (∀ p t, (t.player p).art = .disabled → convertedWork p w t = t)

/-- A sweep that converts a player in WARMUP, and no other: it counts the sweep, and the eighth ends warm-up, into
CAPTURE with everything of the capture clear where capture-on-enable is on, else into SILENT. Fault runs, calibration
values and everything else stand; WARMUP_END is the completion that ends it, which is the model's reading (entry 6) (R3,
R4, R5, R7, R10). -/
def Obligations.WarmupCountsEightSweeps : Prop :=
  ∀ (p : Player) (w : Sweep) (s : State), s.resetHeld = false → s.sweep = some w → w.set.get p = true →
    w.set.get p.other = false → (s.player p).art = .warmup →
    ((s.player p).warmup + 1 < 8 → exec .sweepCompletion s = .next
      ({ s with sweep := none }.modPlayer p fun q => { q with warmup := q.warmup + 1, driftCount := 0, driftSum := 0 })) ∧
      (8 ≤ (s.player p).warmup + 1 → (s.settings p).captureOnEnable = false →
        ∀ c ∈ [Instr.sweepCompletion, Instr.warmupEnd p], exec c s = .next
          ({ s with sweep := none }.modPlayer p fun q =>
            { q with art := .silent, warmup := 0, driftCount := 0, driftSum := 0 })) ∧
      (8 ≤ (s.player p).warmup + 1 → (s.settings p).captureOnEnable = true →
        ∀ c ∈ [Instr.sweepCompletion, Instr.warmupEnd p], exec c s = .next
          ({ s with sweep := none }.modPlayer p fun q =>
            { q with
              art := .capture, warmup := 0, driftCount := 0, driftSum := 0, captureCount := 0, breathSum := 0
              lipSum := 0, breathTaint := false, lipTaint := false, captureFor := none }))

/-- A sweep that converts a player in CAPTURE, and no other. After the fault update, the shaping unit is handed n = 0
and bend 0. A sweep that started before the capture began does no more. Any other sweep adds to taints, sums and count,
and the sixteenth completes the capture: each untainted channel stores floor((sum + 8) / 16), the player is SILENT, the
requester is told. CAPTURE_COMPLETION is the completion that completes it, which is the model's reading (entry 6) (R3,
R7, R8, R10). -/
def Obligations.CaptureTakesSixteenSweeps : Prop :=
  ∀ (p : Player) (w : Sweep) (s : State), s.resetHeld = false → s.sweep = some w → w.set.get p = true →
    w.set.get p.other = false → (s.player p).art = .capture →
    let f := faultUpdates p (w.samples.get p) { s with sweep := none }
    let bt := (s.player p).breathTaint || decide ((f.player p).breath.state = .fault)
    let lt := (s.player p).lipTaint || decide ((f.player p).lip.state = .fault)
    let bs := (s.player p).breathSum + (w.samples.get p).1.toNat
    let ls := (s.player p).lipSum + (w.samples.get p).2.toNat
    (w.inCapture.get p = false → exec .sweepCompletion s = .next
      (f.modPlayer p fun q => { q with n := 0, bend := 0, driftCount := 0, driftSum := 0 })) ∧
      (w.inCapture.get p = true → (s.player p).captureCount + 1 < 16 → exec .sweepCompletion s = .next
        (f.modPlayer p fun q =>
          { q with
            n := 0, bend := 0, driftCount := 0, driftSum := 0, breathTaint := bt, lipTaint := lt, breathSum := bs
            lipSum := ls, captureCount := q.captureCount + 1 })) ∧
      (w.inCapture.get p = true → 16 ≤ (s.player p).captureCount + 1 →
        ∀ c ∈ [Instr.sweepCompletion, Instr.captureCompletion p], exec c s = .next
          (notify .captureDone (s.player p).captureFor (f.modPlayer p fun q =>
            { q with
              art := .silent, n := 0, bend := 0, driftCount := 0, driftSum := 0, captureCount := 0, breathSum := 0
              lipSum := 0, breathTaint := false, lipTaint := false, captureFor := none
              offset := if bt then q.offset else (bs + 8) / 16
              centre := if lt then q.centre else (ls + 8) / 16 })))

/-- The fault update of a channel by a sample: in NORMAL an extreme sample (0 or 4095) advances the run and any other
clears it, in FAULT the other way round; at 64 the state changes and the run is 0, with SENSOR broadcast and, on entry
only, the sensor-fault counter up by one and held at 65535. Nothing else changes (R12, R13). -/
def Obligations.FaultRunsOfSixtyFour : Prop :=
  ∀ (p : Player) (t : Transducer) (x : Sample) (s : State),
    let ch := (s.player p).channel t
    let opposing := if ch.state = .normal then x = 0 ∨ x = 4095 else x ≠ 0 ∧ x ≠ 4095
    let put := fun c : Channel => s.modPlayer p (PlayerState.withChannel t c)
    (¬ opposing → faultUpdate p t x s = put ⟨ch.state, 0⟩) ∧
      (opposing → ch.run + 1 < 64 → faultUpdate p t x s = put ⟨ch.state, ch.run + 1⟩) ∧
      (opposing → 64 ≤ ch.run + 1 → ch.state = .fault → faultUpdate p t x s = broadcast .sensor (put ⟨.normal, 0⟩)) ∧
      (opposing → 64 ≤ ch.run + 1 → ch.state = .normal → faultUpdate p t x s =
        broadcast .sensor ((put ⟨.fault, 0⟩).modCounters fun c =>
          { c with sensorFaults := min 65535 (c.sensorFaults + 1) }))

/-- FAULT_ENTRY and FAULT_EXIT are the completion of the sweep that brings a channel of a converted player, outside
warm-up, its sixty-fourth opposing sample: the channel is then in FAULT, or in NORMAL again, with run 0, and SENSOR is
pending for every station that is not ABSENT (R12, R13). That the two rows are that completion is the model's reading
(entry 6). -/
def Obligations.FaultRowsAreTheSweep : Prop :=
  ∀ (p : Player) (tr : Transducer) (w : Sweep) (s : State), s.resetHeld = false → s.sweep = some w →
    w.set.get p = true → (s.player p).art ∈ [ArtState.capture, .silent, .sounding, .quiet] →
    let x := match tr with
      | .breath => (w.samples.get p).1
      | .lip => (w.samples.get p).2
    let ch := (s.player p).channel tr
    64 ≤ ch.run + 1 →
    (ch.state = .normal → x = 0 ∨ x = 4095 → ∃ t, exec (.faultEntry p tr) s = .next t ∧
      exec .sweepCompletion s = .next t ∧ (t.player p).channel tr = ⟨.fault, 0⟩ ∧
      ∀ st, (t.station st).code ≠ .absent → (t.station st).attention.getLsbD 1 = true) ∧
      (ch.state = .fault → x ≠ 0 → x ≠ 4095 → ∃ t, exec (.faultExit p tr) s = .next t ∧
        exec .sweepCompletion s = .next t ∧ (t.player p).channel tr = ⟨.normal, 0⟩ ∧
        ∀ st, (t.station st).code ≠ .absent → (t.station st).attention.getLsbD 1 = true)

/-- DRIFT_STEP is the completion of the sweep that brings a drift block to 256 samples, for a converted player that
stays SILENT with a NORMAL breath channel and drift tracking on: the offset moves one count toward the block mean when
that lies within 96 of it, else it stands; the block is cleared (R10, R11). That the row is that completion is the
model's reading (entry 6). Any other sweep of a converted player in SILENT, SOUNDING or QUIET gathers: where, after its
fault update and articulation work, the setting is on and the player SILENT with a NORMAL breath channel, the block
takes the raw breath sample and counts it; where any of the three fails the block is cleared. The offset stands (R10). -/
def Obligations.DriftMovesOneCount : Prop :=
  (∀ (p : Player) (w : Sweep) (s : State), s.resetHeld = false → s.sweep = some w → w.set.get p = true →
    (s.player p).art = .silent → (s.settings p).drift = true → (s.player p).breath.state = .normal →
    (s.player p).driftCount = 255 →
    let raw := (w.samples.get p).1
    (raw ≠ 0 ∧ raw ≠ 4095) ∨ (s.player p).breath.run + 1 < 64 →
    min 4095 ((raw.toNat - (s.player p).offset) * (s.settings p).gain / 256) < (s.settings p).onThreshold →
    ∃ t, exec (.driftStep p) s = .next t ∧ exec .sweepCompletion s = .next t ∧ (t.player p).driftCount = 0 ∧
      (t.player p).driftSum = 0 ∧
      let m := ((s.player p).driftSum + raw.toNat) / 256
      let o := (s.player p).offset
      (m = o → (t.player p).offset = o) ∧
        (o < m → m ≤ o + 96 → (t.player p).offset = o + 1) ∧
        (m < o → o ≤ m + 96 → (t.player p).offset = o - 1) ∧
        (o + 96 < m ∨ m + 96 < o → (t.player p).offset = o)) ∧
    ∀ (p : Player) (w : Sweep) (s : State), s.resetHeld = false → s.sweep = some w → w.set.get p = true →
      (s.player p).art ∈ [ArtState.silent, .sounding, .quiet] →
      ∃ t, exec .sweepCompletion s = .next t ∧
        let q := s.player p
        let q' := t.player p
        let runs := (s.settings p).drift = true ∧ q'.art = .silent ∧ q'.breath.state = .normal
        (runs → q.driftCount + 1 < 256 → q'.driftCount = q.driftCount + 1 ∧
          q'.driftSum = q.driftSum + (w.samples.get p).1.toNat ∧ q'.offset = q.offset) ∧
          (¬ runs → q'.driftCount = 0 ∧ q'.driftSum = 0 ∧ q'.offset = q.offset)

/-- The sweep of a player in SILENT, SOUNDING or QUIET. It is handed n: 0 while its breath channel is in FAULT after
the update, else floor((raw - offset) × gain / 256) at most 4095; and the bend of R40, 0 while its lip channel is in
FAULT: both are stored. SILENT attacks at the on-threshold, SOUNDING is released below the off-threshold, QUIET goes to
SILENT below it; no other state change (R14, R31, R32, R40, R67, R81). From a safe state every voice that the note of a
SOUNDING player still names has moved its smoothing state toward the curve value at n and has the level scaled from it
(R36, R37, R38). The player's whole work, in this order: the fault update, n and bend stored, the decision, stages 3 to
6 with the level report for each voice of the note record as it then stands in layer order, and the bend report; after
it only the drift block and offset move (R30, R37). -/
def Obligations.SweepDecidesByThresholds : Prop :=
  ∀ (p : Player) (w : Sweep) (s : State), s.resetHeld = false → s.sweep = some w → w.set.get p = true →
    let q := s.player p
    let x := s.settings p
    q.art ∈ [ArtState.silent, .sounding, .quiet] →
    ∃ t, exec .sweepCompletion s = .next t ∧
      (t.player p).n = (if (t.player p).breath.state = .fault then 0
        else min 4095 (((w.samples.get p).1.toNat - q.offset) * x.gain / 256)) ∧
      (q.art = .silent → (t.player p).art = if x.onThreshold ≤ (t.player p).n then .sounding else .silent) ∧
      (q.art = .sounding → (t.player p).art = if (t.player p).n < x.offThreshold then .silent else .sounding) ∧
      (q.art = .quiet → (t.player p).art = if (t.player p).n < x.offThreshold then .silent else .quiet) ∧
      (t.player p).bend = (if (t.player p).lip.state = .fault then 0
        else bendOf (w.samples.get p).2.toNat q.centre x.deadzone x.bendDepth) ∧
      (s.Safe → q.art = .sounding → ∀ L i, t.slot p L = some i →
        let v := s.voice i.voice
        let smoothed := smooth v.s (curveValue (s.tables.curves.get v.curve) (t.player p).n) x.k
        s.slot p L = some i ∧ (t.voice i.voice).s = smoothed ∧ (t.voice i.voice).level = scaleLevel smoothed v.scale) ∧
      ∀ r : State, (r.player p).art ∈ [ArtState.silent, .sounding, .quiet] →
        let y := r.settings p
        let stored := (faultUpdates p (w.samples.get p) r).modPlayer p fun q => { q with
          n := if q.breath.state = .fault then 0 else min 4095 (((w.samples.get p).1.toNat - q.offset) * y.gain / 256)
          bend := if q.lip.state = .fault then 0
            else bendOf (w.samples.get p).2.toNat q.centre y.deadzone y.bendDepth }
        let n := (stored.player p).n
        let decided := match (r.player p).art with
          | .silent => if y.onThreshold ≤ n then attack p stored else stored
          | .sounding => if n < y.offThreshold then releaseNote p stored else stored
          | .quiet => if n < y.offThreshold then
              stored.modPlayer p fun q => { q with art := .silent, note := none, settle := none } else stored
          | .disabled => stored
          | .warmup => stored
          | .capture => stored
        let named := ([0, 1, 2, 3] : List LayerNo).filterMap fun L => (decided.slot p L).map Incarnation.voice
        let shape := fun (u : State) (v : VoiceNo) =>
          let next := fun z : Voice => smooth z.s (curveValue (r.tables.curves.get z.curve) n) y.k
          reportLevel v y.deadBand
            (u.modVoice v fun z => { z with s := next z, level := scaleLevel (next z) z.scale })
        let worked := convertedWork p w r
        worked = (reportBend p (named.foldl shape decided)).modPlayer p fun q => { q with
          driftCount := (worked.player p).driftCount, driftSum := (worked.player p).driftSum
          offset := (worked.player p).offset }

/-- An attack of a SILENT player in a safe state. The player is SOUNDING with the attack's base pitch, source and note
resolved pitch, the settle timer stopped and the last reported bend at the current one. With the renderer present,
every layer that is present and whose window admits the base pitch has its voice where at least four voices are free;
each voice given is ACTIVE for the player and layer with the pitch, bend, program, curve, scale, smoothing state and
level of R35, R43 and R69. A layer not admitted, and every layer without the renderer, stays absent (R54, R55, R68,
R69, R77). The work's order: the note record with four absent slots first, then layers 0 to 3 in turn, each admitted
one asking for its voice, and answered, before the next. A present renderer's queue holds the STARTs of the note in
layer order, each behind whatever else waits for its voice, the CUT of its steal included; where four voices are free
they are appended and nothing else changes there (R68, R69, R95). The count of uses that the entries carry is the
model's (entry 14). -/
def Obligations.AttackBuildsNote : Prop :=
  ∀ (p : Player) (s : State), s.Safe → (s.player p).art = .silent →
    let t := attack p s
    let base := s.playerBase p
    (t.player p).art = .sounding ∧ (t.player p).settle = none ∧ (t.player p).resolved = s.playerResolved p ∧
      (t.player p).lastBend = (s.player p).bend ∧
      (∃ r, (t.player p).note = some r ∧ r.base = base ∧ r.source = s.playerSource p) ∧
      (∀ L, let y := s.layer p L
        (s.rendererPresent = false ∨ y.present = false ∨ base < y.low ∨ y.high < base → t.slot p L = none) ∧
          (s.rendererPresent = true → y.present = true → y.low ≤ base → base ≤ y.high → 4 ≤ s.freeList.length →
            t.slot p L ≠ none) ∧
          ∀ i, t.slot p L = some i →
            let z := t.voice i.voice
            let target := curveValue (s.tables.curves.get y.curve) (s.player p).n
            z.state = .active ∧ z.player = p ∧ z.layer = L ∧ z.gen = i.gen ∧ z.pitch = foldPitch (base + y.interval) ∧
              z.bend = (s.player p).bend ∧ z.program = y.program ∧ z.curve = y.curve ∧ z.scale = y.scale ∧
              z.s = target ∧ z.level = (target * y.scale + 128) / 256 ∧ z.lastLevel = z.level) ∧
      let layers : List LayerNo := [0, 1, 2, 3]
      let begun := s.modPlayer p fun q => { q with
        art := .sounding, note := some ⟨base, s.playerSource p, Tab.const 4 none⟩, settle := none
        resolved := s.playerResolved p, lastBend := q.bend }
      t = layers.foldl (fun u L => askLayer p base L u) begun ∧
        (∀ (u : State) (L : LayerNo), let y := u.layer p L
          let admitted := u.rendererPresent = true ∧ y.present = true ∧ y.low ≤ base ∧ base ≤ y.high
          (admitted → askLayer p base L u = allocate p L
            ⟨foldPitch (base + y.interval), (u.player p).lastBend, y.program, y.curve, y.scale⟩ u) ∧
            (¬ admitted → askLayer p base L u = u)) ∧
        let startOf := fun (L : LayerNo) (i : Incarnation) =>
          let z := t.voice i.voice
          Entry.voice i p z.use (.start L z.pitch z.bend z.level z.program)
        let starts := layers.filterMap fun L => (t.slot p L).map (startOf L)
        let before := (s.station s.tables.renderer).waiting
        let after := (t.station s.tables.renderer).waiting
        (s.rendererPresent = true → after.filter (fun e => decide (e ∈ starts)) = starts) ∧
          (s.rendererPresent = true → 4 ≤ s.freeList.length → after = before ++ starts) ∧
          (s.rendererPresent = true → ∀ L i, t.slot p L = some i → ∀ l r, after = l ++ startOf L i :: r →
            ∀ e ∈ r, e.isOfVoice i.voice = false)

/-! ### Level and pitch arithmetic -/

/-- Stage 3: in segment i at position f the curve value is y(i) + floor((d × f + 256) / 512); it lies between the
segment's two points, and at a point it is exactly that point (R33, R34). Stage 4 adds trunc(δ × k / 16) to the
smoothing state, or one count toward the target where that is 0 and δ is not; so it moves by at least one count and
never past the target, and with k = 16 reaches it at once (R36). Stage 5 rounds, never exceeds 1023, is the identity at
scale 256 and 0 at scale 0 (R38). -/
def Obligations.LevelStagesStayInRange : Prop :=
  (∀ (c : Curve) (i : Fin 8) (f : Nat), f < 512 →
    let y := curveValue c (512 * i.val + f)
    let from' := c.get i.castSucc
    let to' := c.get i.succ
    (y : Int) = from' + (((to' : Int) - from') * f + 256) / 512 ∧ min from' to' ≤ y ∧ y ≤ max from' to' ∧
      (f = 0 → y = from')) ∧
    ∀ s target k : Nat, 1 ≤ k → k ≤ 16 →
      let δ : Int := target - s
      let step : Int := Int.tdiv (δ * k) 16
      (smooth s target k : Int) = s + (if step ≠ 0 then step else if 0 < δ then 1 else if δ < 0 then -1 else 0) ∧
        (s < target → s < smooth s target k ∧ smooth s target k ≤ target) ∧
        (target < s → target ≤ smooth s target k ∧ smooth s target k < s) ∧
        smooth s target 16 = target ∧
        ∀ scale ≤ 256, s ≤ 1023 → scaleLevel s scale = (s * scale + 128) / 256 ∧ scaleLevel s scale ≤ 1023 ∧
          scaleLevel s 256 = s ∧ scaleLevel s 0 = 0

/-- The fold. A value within 0 to 127 is unchanged; one below 0 lands within 0 to 11, one above 127 within 116 to 127;
the fold moves by twelves, at most 5 up or 6 down for a sum within -60 to +187; and the sums of the base pitch and of
the layer pitch lie within that (R42, R43). That 187 folds as R42 says, and not as a worked case of the chapter has it,
is the model's reading (entry 24). -/
def Obligations.FoldKeepsPitchClass : Prop :=
  (∀ x : Int,
    (0 ≤ x → x ≤ 127 → (foldPitch x : Int) = x) ∧ (x < 0 → foldPitch x ≤ 11) ∧
      (127 < x → 116 ≤ foldPitch x ∧ foldPitch x ≤ 127) ∧
      (∃ k : Int, (foldPitch x : Int) = x + 12 * k ∧ (-60 ≤ x → x ≤ 187 → -6 ≤ k ∧ k ≤ 5))) ∧
    (∀ (r : Nat) (o t : Int), r ≤ 127 → -3 ≤ o → o ≤ 3 → -24 ≤ t → t ≤ 24 →
      basePitch r o t = foldPitch (r + 12 * o + t) ∧ -60 ≤ r + 12 * o + t ∧ r + 12 * o + t ≤ 187 ∧
        ∀ i : Int, -36 ≤ i → i ≤ 36 →
          layerPitch (basePitch r o t) i = foldPitch (basePitch r o t + i) ∧
            -36 ≤ (basePitch r o t : Int) + i ∧ (basePitch r o t : Int) + i ≤ 163)

/-- The bend of a lip sample: 0 within the deadzone; outside it the deadzone is taken off toward zero, the rest scaled
by depth / 256 with truncation toward zero and limited to 200 either way; equal movements above and below the centre
give opposite bends (R40). -/
def Obligations.BendIsSymmetric : Prop :=
  ∀ centre deadzone depth d : Nat,
    (d ≤ deadzone → bendOf (centre + d) centre deadzone depth = 0) ∧
      (deadzone < d → bendOf (centre + d) centre deadzone depth = min 200 (((d - deadzone) * depth / 256 : Nat) : Int)) ∧
      (d ≤ centre → bendOf (centre - d) centre deadzone depth = - bendOf (centre + d) centre deadzone depth)

/-- Reports. A voice's level is issued as LEVEL, and becomes its last reported level, when it differs from that by the
dead band or more, or is 0 or 1023 and differs at all; else nothing changes (R39). A SOUNDING player's bend is reported
when it differs from the last reported one by 2 or more, or is 0, +200 or -200 and differs: for each voice of the note,
in layer order, the bend is recorded and a PITCH with the voice's recorded pitch and the new bend is issued, and the
last reported bend is the current one; else nothing changes (R41). -/
def Obligations.ReportsCrossTheDeadBand : Prop :=
  ∀ s : State,
    (∀ v deadBand, let x := s.voice v
      let far := x.lastLevel + deadBand ≤ x.level ∨ x.level + deadBand ≤ x.lastLevel
      let atEnd := (x.level = 0 ∨ x.level = 1023) ∧ x.level ≠ x.lastLevel
      (far ∨ atEnd → reportLevel v deadBand s =
        issue v (.level x.level) (s.modVoice v fun y => { y with lastLevel := x.level })) ∧
      (¬ far → ¬ atEnd → reportLevel v deadBand s = s)) ∧
      ∀ p, let q := s.player p
        let moved := 2 ≤ q.bend - q.lastBend ∨ 2 ≤ q.lastBend - q.bend
        let atEnd := (q.bend = 0 ∨ q.bend = 200 ∨ q.bend = -200) ∧ q.bend ≠ q.lastBend
        let voices := ([0, 1, 2, 3] : List LayerNo).filterMap fun L => (s.slot p L).map Incarnation.voice
        let tell := fun (t : State) (v : VoiceNo) =>
          issue v (.pitch (t.voice v).pitch q.bend) (t.modVoice v fun x => { x with bend := q.bend })
        (q.art = .sounding → moved ∨ atEnd → ((reportBend p s).player p).lastBend = q.bend ∧
          reportBend p s = (voices.foldl tell s).modPlayer p (fun x => { x with lastBend := q.bend }) ∧
          ∀ L i, s.slot p L = some i → ((reportBend p s).voice i.voice).bend = q.bend ∧
            ((reportBend p s).voice i.voice).pitch = (s.voice i.voice).pitch) ∧
        (q.art ≠ .sounding ∨ (¬ moved ∧ ¬ atEnd) → reportBend p s = s)

/-! ### Keywork and resolution -/

/-- SCAN_START fixes each player's 31 readings (drive line d and sense line i in bit 4 d + i, KD7 with sense 3 not
used; the operand's bit places are the model's choice, entry 2), which players are enabled, and which take-overs it
performs: those of the players whose mark is set. It drives KD0 to KD7 low one after another. Nothing else changes; the
marks stand (R17, R24, R178). That a scan started while one is in progress takes its place is the model's choice (entry
16). -/
def Obligations.ScanStartFixesReadings : Prop :=
  ∀ (m1 m2 : BitVec 32) (s : State), s.resetHeld = false →
    ∃ w : Scan, exec (.scanStart m1 m2) s = .next
        { s with
          scan := some w
          pins := { s.pins with kd := [0xFE, 0xFD, 0xFB, 0xF7, 0xEF, 0xDF, 0xBF, 0x7F] } } ∧
      (∀ k, k < 31 → w.readings.p1.getLsbD k = m1.getLsbD k ∧ w.readings.p2.getLsbD k = m2.getLsbD k) ∧
      (∀ p, w.enabled.get p = (s.settings p).enabled) ∧ (∀ p, w.takeOver.get p = (s.player p).takeOver)

/-- SCAN_COMPLETION forms each player's inputs: by take-over from the readings directly, which clears the take-over
mark, else input by input by the double look, which leaves the mark; the word holds keys 0 to 23, the offset is that of
the highest closed octave contact, the hold state is the hold contact. It hands nothing on for a player that was
disabled at the start or since, or is under take-over: where both are, nothing else in the part changes; and in no case
do tables, image memory, articulation states or sensing values change (R17 to R25). That KD0 to KD7 then rest high is
the model's choice (entry 22). -/
def Obligations.ScanLooksTwice : Prop :=
  ∀ (w : Scan) (a b : Bool) (s : State), s.resetHeld = false → s.scan = some w →
    let ended := { s with scan := none, pins := { s.pins with kd := [0xFF] } }
    ∃ t, exec (.scanCompletion a b) s = .next t ∧ PoolWorkOnly ended t ∧
      (∀ p, t.player p = { t.player p with
        art := (s.player p).art, breath := (s.player p).breath, lip := (s.player p).lip, n := (s.player p).n
        bend := (s.player p).bend, offset := (s.player p).offset, centre := (s.player p).centre
        takeOver := (s.player p).takeOver && !w.takeOver.get p }) ∧
      (∀ p, let q := s.player p
        let q' := t.player p
        let r := w.readings.get p
        (w.takeOver.get p = true → q'.debounced = r ∧ q'.marks = 0) ∧
        (w.takeOver.get p = false → ∀ k, k < 31 →
          (r.getLsbD k = q.debounced.getLsbD k →
            q'.debounced.getLsbD k = q.debounced.getLsbD k ∧ q'.marks.getLsbD k = false) ∧
          (r.getLsbD k ≠ q.debounced.getLsbD k → q.marks.getLsbD k = false →
            q'.debounced.getLsbD k = q.debounced.getLsbD k ∧ q'.marks.getLsbD k = true) ∧
          (r.getLsbD k ≠ q.debounced.getLsbD k → q.marks.getLsbD k = true →
            q'.debounced.getLsbD k = r.getLsbD k ∧ q'.marks.getLsbD k = false)) ∧
        (∀ k, k < 24 → q'.word.getLsbD k = q'.debounced.getLsbD k) ∧
        (∀ c : Fin 6, q'.debounced.getLsbD (24 + c.val) = true →
          (∀ d : Fin 6, c < d → q'.debounced.getLsbD (24 + d.val) = false) →
          q'.octave = [-3, -2, -1, 1, 2, 3].getD c.val 0) ∧
        ((∀ c : Fin 6, q'.debounced.getLsbD (24 + c.val) = false) → q'.octave = 0) ∧
        q'.held = q'.debounced.getLsbD 30) ∧
      ((∀ p, w.enabled.get p = false ∨ w.takeOver.get p = true) →
        t = { ended with players := t.players } ∧ ∀ p, t.player p =
          { s.player p with
            takeOver := (t.player p).takeOver, debounced := (t.player p).debounced, marks := (t.player p).marks, word := (t.player p).word
            octave := (t.player p).octave, held := (t.player p).held })

/-- A scan that brings a fingering change to a SOUNDING player with a settle window of 1 ms or more starts the settle
timer afresh with the whole window; one that brings none leaves the timer; for a player that is not SOUNDING a fingering
change does nothing (R22, R56, R60). SCAN_COMPLETION does player 1's work, then player 2's; for a player enabled at the
start and not under take-over it hands a fingering change on to the resolver exactly where the pair of word and offset
changed, and a hold release to the articulation controller exactly where the hold state went off, in the order its
operand gives (R17, R22, R72; the operand is the model's choice, entry 3). That KD0 to KD7 then rest high is the model's
choice (entry 22). A fingering change of a SOUNDING player with W = 0 is resolved at once (R57). -/
def Obligations.FingeringChangeRestartsTimer : Prop :=
  (∀ (p : Player) (w : Scan) (a b : Bool) (s : State), s.resetHeld = false → s.scan = some w →
    w.enabled.get p = true → w.takeOver.get p = false → (s.player p).art = .sounding → 1 ≤ (s.settings p).settleMs →
    ∃ t, exec (.scanCompletion a b) s = .next t ∧
      ((t.player p).word = (s.player p).word ∧ (t.player p).octave = (s.player p).octave →
        (t.player p).settle = (s.player p).settle) ∧
      ((t.player p).word ≠ (s.player p).word ∨ (t.player p).octave ≠ (s.player p).octave →
        (t.player p).settle = some ((s.settings p).settleMs * 4000))) ∧
    (∀ (p : Player) (s : State), (s.player p).art ≠ .sounding → fingeringChange p s = s) ∧
    (∀ (w : Scan) (a b : Bool) (s : State), s.resetHeld = false → s.scan = some w →
      exec (.scanCompletion a b) s = .next
        (scanPlayer .p2 w b (scanPlayer .p1 w a { s with scan := none, pins := { s.pins with kd := [0xFF] } }))) ∧
    (∀ (p : Player) (w : Scan) (holdFirst : Bool) (s : State),
      let q := s.player p
      let u := s.modPlayer p (PlayerState.scanned (w.takeOver.get p) (w.readings.get p))
      let q' := u.player p
      let changed := q'.word ≠ q.word ∨ q'.octave ≠ q.octave
      let letGo := q.held = true ∧ q'.held = false
      let t := scanPlayer p w holdFirst s
      (w.enabled.get p = false ∨ w.takeOver.get p = true → t = u) ∧
        (w.enabled.get p = true → w.takeOver.get p = false →
          (¬ changed → ¬ letGo → t = u) ∧
          (changed → ¬ letGo → t = fingeringChange p u) ∧
          (¬ changed → letGo → t = holdReleased p u) ∧
          (changed → letGo →
            t = if holdFirst then fingeringChange p (holdReleased p u) else holdReleased p (fingeringChange p u)))) ∧
    ∀ (p : Player) (s : State), (s.player p).art = .sounding → (s.settings p).settleMs = 0 →
      Resolves p s (fingeringChange p s)

/-- SETTLE_EXPIRY of a SOUNDING player whose timer has run out: the timer stops, the note resolved pitch and the
record's source are those of the resolution; where the base pitch stands nothing else changes, else a pitch change
follows and the record takes the new base pitch. A stopped timer has no expiry, nor has one with time left, as a scan
leaves it that restarts it first (R55, R56, R58, R61, R62). That the command acts from the last link event before the
moment on, and lets the remaining time pass, is the model's choice (entries 4 and 5). -/
def Obligations.SettleExpiryResolves : Prop :=
  ∀ (p : Player) (s : State), s.resetHeld = false →
    let place := s.bitTime % 250
    let untilEvent := min (if place < 171 then 171 - place else 250 - place) (1000 - s.bitTime)
    ((s.player p).settle = none ∨ (s.player p).art ≠ .sounding → exec (.settleExpiry p) s = .next s) ∧
      (∀ d, (s.player p).settle = some d → untilEvent < d → exec (.settleExpiry p) s = .next s) ∧
      ∀ d r, (s.player p).settle = some d → d ≤ untilEvent → (s.player p).art = .sounding → (s.player p).note = some r →
        let s' := s.advanceTo (s.bitTime + d)
        (∃ t, exec (.settleExpiry p) s = .next t ∧ Resolves p s' t) ∧
        (s.playerBase p = r.base → exec (.settleExpiry p) s = .next (s'.modPlayer p fun q =>
          { q with
            settle := none, resolved := s.playerResolved p, note := some { r with source := s.playerSource p } })) ∧
        (s.playerBase p ≠ r.base → ∃ t r', exec (.settleExpiry p) s = .next t ∧ (t.player p).settle = none ∧
          PoolWorkOnly s' t ∧ (t.player p).resolved = s.playerResolved p ∧ (t.player p).art = .sounding ∧
          (t.player p).note = some r' ∧
          r'.base = s.playerBase p ∧ r'.source = s.playerSource p)

/-- A pitch change. The new base pitch is written into the record. In LEGATO each layer from 0 to 3 is taken in turn: a
named voice whose layer is present and admits the base is retuned by a PITCH with the last reported bend, where the
layer pitch differs from its recorded one, and keeps the rest of its record but for its levels' course; any other named
voice is released and its slot becomes absent; an absent slot whose layer fits asks for a voice with the contents of
R74. In RETRIGGER every named voice is released, then every layer that fits asks for a voice; with the renderer ABSENT
only the base is written, and no voice is asked for in either mode. From a safe state the player stays SOUNDING, and
every voice the note then names is ACTIVE at its layer's pitch (R66, R73 to R75, R77). -/
def Obligations.PitchChangeFollowsMode : Prop :=
  ∀ (p : Player) (base : Nat) (s : State),
    let layers : List LayerNo := [0, 1, 2, 3]
    let q := s.player p
    let fits := fun (t : State) (L : LayerNo) =>
      (t.layer p L).present = true ∧ (t.layer p L).low ≤ base ∧ base ≤ (t.layer p L).high
    let pitchOf := fun (t : State) (L : LayerNo) => foldPitch (base + (t.layer p L).interval)
    let contents := fun (t : State) (L : LayerNo) =>
      let y := t.layer p L
      StartContents.mk (pitchOf t L) (t.player p).lastBend y.program y.curve y.scale
    let emptied := fun (L : LayerNo) (t : State) =>
      t.modPlayer p fun q => { q with note := q.note.map fun r => { r with slots := r.slots.set L none } }
    let written := s.modPlayer p fun q => { q with note := q.note.map fun r => { r with base := base } }
    let mode := (s.settings p).mode
    let t := pitchChange p base s
    (mode = .legato → t = layers.foldl (fun u L => legatoLayer p base L u) written) ∧
      (mode = .retrigger → s.rendererPresent = false → t = written) ∧
      (mode = .retrigger → s.rendererPresent = true →
        t = layers.foldl (fun u L => askLayer p base L u) (layers.foldl (fun u L => releaseSlot p L u) written)) ∧
      (∀ L : LayerNo,
        (∀ i, s.slot p L = some i → releaseSlot p L s = emptied L (releaseVoice i.voice s) ∧
          (¬ fits s L → legatoLayer p base L s = emptied L (releaseVoice i.voice s)) ∧
          (fits s L → (s.voice i.voice).pitch = pitchOf s L → legatoLayer p base L s = s) ∧
          (fits s L → (s.voice i.voice).pitch ≠ pitchOf s L → legatoLayer p base L s =
            issue i.voice (.pitch (pitchOf s L) q.lastBend) (s.modVoice i.voice fun x => { x with pitch := pitchOf s L }))) ∧
        (s.slot p L = none → releaseSlot p L s = s ∧ legatoLayer p base L s = askLayer p base L s) ∧
        (s.rendererPresent = true → fits s L → askLayer p base L s = allocate p L (contents s L) s) ∧
        (s.rendererPresent = false ∨ ¬ fits s L → askLayer p base L s = s)) ∧
      (s.Safe → q.art = .sounding →
        (t.player p).art = .sounding ∧ (∃ r, (t.player p).note = some r ∧ r.base = base) ∧
        (t.player p).lastBend = q.lastBend ∧
        (∀ L i, t.slot p L = some i → fits s L ∧ (t.voice i.voice).state = .active ∧
          (t.voice i.voice).pitch = pitchOf s L) ∧
        (mode = .legato → ∀ L i, s.slot p L = some i →
          (fits s L → t.slot p L = some i ∧ t.voice i.voice = { s.voice i.voice with pitch := pitchOf s L }) ∧
          (¬ fits s L → t.slot p L = none)))

/-- The winner of a word for a chart is the candidate of greatest specificity, the lowest index among equals, and there
is none exactly where there is no candidate: a valid entry of the chart whose pattern is the word within its care mask.
The winner's pitch is the resolution's (R51, R52). -/
def Obligations.WinnerIsMostSpecific : Prop :=
  ∀ (t : Tables) (c : Fin 4) (w : BitVec 24),
    let cand := fun i : EntryNo => (t.entries.get i).valid = true ∧ (t.entries.get i).chart = c ∧
      w &&& (t.entries.get i).care = (t.entries.get i).pattern
    let keys := fun i : EntryNo => ((List.range 24).filter fun k => (t.entries.get i).care.getLsbD k).length
    (winner t.entries c w = none ↔ ∀ i, ¬ cand i) ∧
      ∀ i, winner t.entries c w = some i →
        cand i ∧ (∀ j, cand j → keys j < keys i ∨ (keys j = keys i ∧ i ≤ j)) ∧
          ∀ keep, resolvedPitch t c keep (some i) = (t.entries.get i).pitch

/-- Without a candidate the source is FALLBACK, and the resolution takes the chart's fallback: under HOLD a SOUNDING
player keeps its note resolved pitch; in every other state, for RESOLVE, and under BASE it is the chart's base pitch
(R53). -/
def Obligations.FallbackByStateAndChart : Prop :=
  ∀ (p : Player) (s : State),
    let c := (s.settings p).chart
    let w := (s.player p).word
    let chart := s.tables.charts.get c
    (∀ i, (s.tables.entries.get i).valid = true → (s.tables.entries.get i).chart = c →
      w &&& (s.tables.entries.get i).care ≠ (s.tables.entries.get i).pattern) →
    s.playerSource p = none ∧
      (chart.fallback = .hold → (s.player p).art = .sounding → s.playerResolved p = (s.player p).resolved) ∧
      (chart.fallback = .hold → (s.player p).art ≠ .sounding → s.playerResolved p = chart.base) ∧
      (chart.fallback = .base → s.playerResolved p = chart.base) ∧
      (s.serves → ∀ st, Answers (.resolve st (BitVec.ofNat 8 c.val) w) st s [0, BitVec.ofNat 8 chart.base, 0xFF, 0])

/-! ### The voice pool -/

/-- A request for a voice. With free voices, the head of the free list is started: next generation, ACTIVE for the
player and layer, the contents supplied, smoothing state and levels taken afresh, release-taken clear, timer stopped;
it goes to the tail of the start-order list, its START with those contents is issued to the receiving queues, and it
goes into the note record's slot (R35, R89 to R91). With none, the victim is taken from its note and cut in the
receiving queues, its CUT or the cancellation of its START before the new START; it is started likewise, STEAL is
broadcast and counted (R95, R119). A present renderer's queue ends in the START, behind the CUT where there is one.
Without a victim the layer is dropped, LAYER-DROPPED is broadcast and counted, and nothing else changes (R94). The
count of uses that the entries carry is the model's (entry 14). -/
def Obligations.AllocationStartsStealsOrDrops : Prop :=
  ∀ (p : Player) (L : LayerNo) (c : StartContents) (s : State), PoolInv s →
    let t := allocate p L c s
    let target := curveValue (s.tables.curves.get c.curve) (s.player p).n
    let started := fun v : VoiceNo => t.voice v =
        { state := .active, gen := (s.voice v).gen + 1, player := p, layer := L, pitch := c.pitch, bend := c.bend
          level := (target * c.scale + 128) / 256, program := c.program, curve := c.curve, scale := c.scale, s := target
          lastLevel := (target * c.scale + 128) / 256, releaseTaken := false, timer := none
          use := (s.voice v).use + 1 } ∧
      (∀ u, u ≠ v → t.voice u = s.voice u) ∧ t.startOrder = s.startOrder.erase v ++ [v] ∧
      ((s.player p).note ≠ none → t.slot p L = some ⟨v, (s.voice v).gen + 1⟩)
    let issued := fun (v : VoiceNo) (u : State) =>
      issue v (.start L c.pitch c.bend ((target * c.scale + 128) / 256) c.program)
        { u.modVoice v (fun _ => t.voice v) with startOrder := u.startOrder.erase v ++ [v] }
    let named := fun (v : VoiceNo) (u : State) => u.modPlayer p fun q =>
      { q with note := q.note.map fun r => { r with slots := r.slots.set L (some ⟨v, (s.voice v).gen + 1⟩) } }
    let rendererOf := fun u : State => (u.station s.tables.renderer).waiting
    let entry := fun v : VoiceNo => Entry.voice ⟨v, (s.voice v).gen + 1⟩ p ((s.voice v).use + 1)
      (.start L c.pitch c.bend ((target * c.scale + 128) / 256) c.program)
    (∀ v rest, s.freeList = v :: rest → started v ∧ t.freeList = rest ∧
      t = named v (issued v { s with freeList := rest }) ∧
      (s.rendererPresent = true → rendererOf t = rendererOf s ++ [entry v]) ∧
      t.counters = { s.counters with overflows := t.counters.overflows }) ∧
      (∀ v, s.freeList = [] → s.victim p = some v → started v ∧ t.freeList = [] ∧
        t.counters.steals = min 65535 (s.counters.steals + 1) ∧
        (∀ st, (t.station st).code ≠ .absent → (t.station st).attention.getLsbD 5 = true) ∧
        ((s.voice v).state = .active → ∀ K, (t.slot p.other K).map Incarnation.voice ≠ some v) ∧
        (let x := s.voice v
          let unnamed := if x.state = .active then
              s.modPlayer x.player fun q => { q with note := q.note.map fun r => { r with
                slots := r.slots.map fun i => if i.map Incarnation.voice = some v then none else i } }
            else s
          let cut := (issue v .cut unnamed).modVoice v fun y => { y with releaseTaken := false, timer := none }
          let w := rendererOf s
          let unheard := w.any fun e => e.ofUse v x.use && e.isStart
          t = named v (broadcast .steal ((issued v { cut with startOrder := cut.startOrder.erase v }).modCounters
            fun k => { k with steals := min 65535 (k.steals + 1) })) ∧
          (s.rendererPresent = true → rendererOf t = (w.filter fun e => !(e.ofUse v x.use && !e.isCut)) ++
            (if unheard then [] else [.voice ⟨v, x.gen⟩ x.player x.use .cut]) ++ [entry v]))) ∧
      (s.freeList = [] → s.victim p = none →
        t = broadcast .layerDropped (s.modCounters fun k => { k with droppedLayers := min 65535 (k.droppedLayers + 1) }))

/-- The victim search, in a state whose note records are right. The requesting note's own voices are never taken. First
the oldest RELEASING voice; then the oldest HELD voice of the requester, or of the other player while that one's count
of ACTIVE and HELD voices exceeds its reserve; then the other player's ACTIVE voice of the highest layer, the oldest
among equals, while its count exceeds its reserve; and none exactly where no voice qualifies. No ACTIVE or HELD voice
of the other player is taken at or below its reserve (R92, R93). -/
def Obligations.VictimSearchFollowsOrder : Prop :=
  ∀ (p : Player) (s : State), NoteInv s →
    let own := fun v : VoiceNo => (s.voice v).state = .active ∧ ∃ L i, s.slot p L = some i ∧ i.voice = v
    let count := ((upTo 32).filter fun v => (s.voice v).player = p.other ∧
      ((s.voice v).state = .active ∨ (s.voice v).state = .held)).length
    let above := (s.settings p.other).reserve < count
    let rel := fun v : VoiceNo => v ∈ s.startOrder ∧ (s.voice v).state = .releasing ∧ ¬ own v
    let held := fun v : VoiceNo => v ∈ s.startOrder ∧ (s.voice v).state = .held ∧ ¬ own v ∧
      ((s.voice v).player = p ∨ above)
    let act := fun v : VoiceNo => v ∈ s.startOrder ∧ (s.voice v).state = .active ∧ ¬ own v ∧
      (s.voice v).player = p.other ∧ above
    let oldest := fun (v : VoiceNo) (among : VoiceNo → Prop) =>
      ∃ l r, s.startOrder = l ++ v :: r ∧ ∀ u ∈ l, ¬ among u
    (s.victim p = none ↔ ∀ v, ¬ rel v ∧ ¬ held v ∧ ¬ act v) ∧
      ∀ v, s.victim p = some v →
        (rel v ∧ oldest v rel) ∨ ((∀ u, ¬ rel u) ∧ held v ∧ oldest v held) ∨
          ((∀ u, ¬ rel u ∧ ¬ held u) ∧ act v ∧ (∀ u, act u → (s.voice u).layer ≤ (s.voice v).layer) ∧
            oldest v fun u => act u ∧ (s.voice u).layer = (s.voice v).layer)

/-- A RELEASE of an ACTIVE or HELD voice makes it RELEASING with release-taken clear and issues RELEASE; any other
voice is left, and nothing is issued (R97). A hold released does so to every HELD voice of the player in start order
and to no other voice (R72). A release of a SOUNDING player's note makes its ACTIVE voices HELD under a held hold
contact, with nothing issued to any queue (R71, R96), and else releases the voices of the record in layer order (R70);
the record is dropped and the player is SILENT. A present renderer's queue gains exactly the RELEASE entries of the
voices released, in that order. No voice leaves its place in either list. -/
def Obligations.ReleaseKeepsPlaces : Prop :=
  ∀ s : State,
    let heard := fun (t : State) (order : List VoiceNo) (p : Player) => s.rendererPresent = true →
      (t.station s.tables.renderer).waiting = (s.station s.tables.renderer).waiting ++
        order.map fun v => .voice ⟨v, (s.voice v).gen⟩ p (s.voice v).use .release;
    (∀ v, ((s.voice v).state = .active ∨ (s.voice v).state = .held → releaseVoice v s =
        issue v .release (s.modVoice v fun x => { x with state := .releasing, releaseTaken := false })) ∧
      ((s.voice v).state = .free ∨ (s.voice v).state = .releasing → releaseVoice v s = s)) ∧
      (∀ p, PoolInv s →
        let t := holdReleased p s
        let order := s.startOrder.filter fun v => decide ((s.voice v).state = .held ∧ (s.voice v).player = p)
        t = order.foldl (fun u v => releaseVoice v u) s ∧ heard t order p ∧
        t.players = s.players ∧ t.freeList = s.freeList ∧ t.startOrder = s.startOrder ∧
          ∀ v, t.voice v = if (s.voice v).state = .held ∧ (s.voice v).player = p then
            { s.voice v with state := .releasing, releaseTaken := false } else s.voice v) ∧
      (∀ p, NoteInv s → (s.player p).art = .sounding →
        let t := releaseNote p s
        (t.player p).art = .silent ∧ (t.player p).note = none ∧ (t.player p).settle = none ∧
          t.player p.other = s.player p.other ∧ t.freeList = s.freeList ∧ t.startOrder = s.startOrder ∧
          ((s.player p).held = true → t.stations = s.stations ∧
            ∀ v, t.voice v = if (s.voice v).state = .active ∧ (s.voice v).player = p then
              { s.voice v with state := .held } else s.voice v) ∧
          ((s.player p).held = false →
            let order := ([0, 1, 2, 3] : List LayerNo).filterMap fun L => (s.slot p L).map Incarnation.voice
            t = (order.foldl (fun u v => releaseVoice v u) s).modPlayer p (fun q =>
              { q with art := .silent, note := none, settle := none }) ∧ heard t order p ∧
            ∀ v, t.voice v = if (s.voice v).state = .active ∧ (s.voice v).player = p then
              { s.voice v with state := .releasing, releaseTaken := false } else s.voice v))

/-- The judgement of a return, test by test, the first that applies deciding: another generation is STALE, a FREE voice
LATE, an ACTIVE or HELD one EARLY, a RELEASING one EARLY before release-taken and accepted after. A discarded return
advances its class's counter and broadcasts BAD-RETURN, and changes nothing else; an accepted one stops the timer,
clears release-taken and moves the voice, FREE, to the tail of the free list (R100 to R102). -/
def Obligations.ReturnsAreJudged : Prop :=
  ∀ (v : VoiceNo) (g : BitVec 4) (s : State),
    let x := s.voice v
    let discard := fun f => broadcast .badReturn (s.modCounters f)
    (g ≠ x.gen → takeReturn v g s = discard fun c => { c with staleReturns := min 65535 (c.staleReturns + 1) }) ∧
      (g = x.gen → x.state = .free →
        takeReturn v g s = discard fun c => { c with lateReturns := min 65535 (c.lateReturns + 1) }) ∧
      (g = x.gen → x.state = .active ∨ x.state = .held ∨ (x.state = .releasing ∧ x.releaseTaken = false) →
        takeReturn v g s = discard fun c => { c with earlyReturns := min 65535 (c.earlyReturns + 1) }) ∧
      (g = x.gen → x.state = .releasing → x.releaseTaken = true →
        takeReturn v g s =
          { s.modVoice v fun y => { y with state := .free, releaseTaken := false, timer := none } with
            startOrder := s.startOrder.erase v, freeList := s.freeList ++ [v] })

/-- RECLAIM of a RELEASING voice whose return timer has run out: the voice is FREE with its generation and other fields
kept, leaves the start-order list and joins the tail of the free list; RECLAIM is counted and broadcast; a present
renderer, whose queue holds no START of the incarnation, loses the incarnation's other entries and gets its CUT at the
tail; players and other voices stand. A voice whose timer is stopped, or has time left, is not reclaimed (R99, R103,
R119). That the command acts from the last link event before the moment on, and lets the remaining time pass, is the
model's choice (entries 4 and 5). -/
def Obligations.ReclaimFreesVoice : Prop :=
  ∀ (v : VoiceNo) (s : State), s.resetHeld = false →
    let x := s.voice v
    let place := s.bitTime % 250
    let untilEvent := min (if place < 171 then 171 - place else 250 - place) (1000 - s.bitTime)
    (x.state ≠ .releasing ∨ x.timer = none → exec (.reclaim v) s = .next s) ∧
      (∀ d, x.timer = some d → untilEvent < d → exec (.reclaim v) s = .next s) ∧
      (∀ d, x.state = .releasing → x.timer = some d → d ≤ untilEvent → ∃ t, exec (.reclaim v) s = .next t ∧
        let s' := s.advanceTo (s.bitTime + d)
        t.voice v = { x with state := .free, releaseTaken := false, timer := none } ∧
        (∀ u, u ≠ v → t.voice u = s'.voice u) ∧ t.players = s'.players ∧ PoolWorkOnly s' t ∧
        t.freeList = s.freeList ++ [v] ∧ t.startOrder = s.startOrder.erase v ∧
        t.counters = { s.counters with
          reclaims := min 65535 (s.counters.reclaims + 1), overflows := t.counters.overflows } ∧
        (∀ st, (t.station st).code ≠ .absent → (t.station st).attention.getLsbD 3 = true) ∧
        (s.rendererPresent = true →
          (∀ e ∈ (s.station s.tables.renderer).waiting, ¬ (e.ofUse v x.use = true ∧ e.isStart = true)) →
          (t.station s.tables.renderer).waiting =
            ((s.station s.tables.renderer).waiting.filter fun e => !(e.ofUse v x.use && !e.isCut)) ++
              [.voice ⟨v, x.gen⟩ x.player x.use .cut]))

/-- A cut of all voices: each voice that was not FREE is FREE with its timer stopped and its other fields kept, joins
the free list in start order behind the voices already there, no note record names a voice any more, and no counter but
the overflows moves (R87, R105, R106). -/
def Obligations.CutAllFreesInStartOrder : Prop :=
  ∀ s : State, PoolInv s → NoteInv s →
    let t := cutAll s
    t.freeList = s.freeList ++ s.startOrder ∧ t.startOrder = [] ∧ (∀ p L, t.slot p L = none) ∧
      (∀ v, t.voice v = if (s.voice v).state = .free then s.voice v else
        { s.voice v with state := .free, releaseTaken := false, timer := none }) ∧
      (∀ p, (t.player p).art = (s.player p).art ∧ (t.player p).settle = (s.player p).settle) ∧
      t.counters = { s.counters with overflows := t.counters.overflows }

/-! ### The event queues -/

/-- What an event does to a receiving queue, a full one included. A LEVEL overwrites the waiting START's level, else
the waiting LEVEL's, else is appended; a PITCH likewise overwrites pitch and bend; START and RELEASE are appended; a
CUT removes the incarnation's START, PITCH, LEVEL and RELEASE, and is appended where no START was waiting. An append
that would take a monitor queue above 160 waiting entries overflows it to one SYNC instead, with OVERFLOW for that
station and the counter; merging appends nothing, and a CUT's append is tested after its removals. Only the waiting
list of that station changes otherwise: the in-flight entry is protected (R111, R115 to R119, R125). That entries of an
earlier use are kept apart where generations wrap is the model's reading (entry 14). -/
def Obligations.EventsMergeAndCancel : Prop :=
  ∀ (st : Station) (v : VoiceNo) (gen : BitVec 4) (p : Player) (use : Nat) (s : State),
    let w := (s.station st).waiting
    let place := fun ev => placeEvent st v gen p use ev s
    let entry := Entry.voice ⟨v, gen⟩ p use
    let here := fun (kind : Entry → Bool) (e : Entry) => e.ofUse v use && kind e
    let some' := fun kind => ∃ e ∈ w, here kind e = true
    let appended := fun (l : List Entry) (ev : Event) =>
      if st = s.tables.renderer ∨ l.length < 160 then setWaiting st (l ++ [entry ev]) s
      else (s.modCounters fun c => { c with overflows := min 65535 (c.overflows + 1) }).modStation st fun x =>
        { x with waiting := [.sync], attention := x.attention ||| 4 }
    (∀ x, (some' Entry.isStart → place (.level x) =
          setWaiting st (w.map fun e => if here Entry.isStart e then e.withLevel x else e) s) ∧
      (¬ some' Entry.isStart → some' Entry.isLevel → place (.level x) =
          setWaiting st (w.map fun e => if here Entry.isLevel e then e.withLevel x else e) s) ∧
      (¬ some' Entry.isStart → ¬ some' Entry.isLevel → place (.level x) = appended w (.level x))) ∧
    (∀ pi b, (some' Entry.isStart → place (.pitch pi b) =
          setWaiting st (w.map fun e => if here Entry.isStart e then e.withPitch pi b else e) s) ∧
      (¬ some' Entry.isStart → some' Entry.isPitch → place (.pitch pi b) =
          setWaiting st (w.map fun e => if here Entry.isPitch e then e.withPitch pi b else e) s) ∧
      (¬ some' Entry.isStart → ¬ some' Entry.isPitch → place (.pitch pi b) = appended w (.pitch pi b))) ∧
    (∀ L pi b x g, place (.start L pi b x g) = appended w (.start L pi b x g)) ∧
    place .release = appended w .release ∧
    let rest := w.filter fun e => !(e.ofUse v use && !e.isCut)
    (some' Entry.isStart → place .cut = setWaiting st rest s) ∧
      (¬ some' Entry.isStart → place .cut = appended rest .cut)

/-- Issuing an event applies the rule of its kind to the queue of each station that receives the player's events, each
queue by itself, and reaches no other: a present station receives them if it is the renderer or its route mask includes
the player. No monitor queue is ever brought above 160 waiting entries: an append past that leaves one SYNC alone,
keeps the in-flight entry, sets OVERFLOW for that station and advances the overflow counter (R111, R113, R125). -/
def Obligations.MonitorQueuesOverflowToSync : Prop :=
  (∀ (st : Station) (e : Entry) (s : State), st ≠ s.tables.renderer → 160 ≤ (s.station st).waiting.length →
    appendEntry st e s =
      (s.modCounters fun c => { c with overflows := min 65535 (c.overflows + 1) }).modStation st fun x =>
        { x with waiting := [.sync], attention := x.attention ||| 4 }) ∧
    ∀ (v : VoiceNo) (ev : Event) (s : State),
      let x := s.voice v
      (∀ st, s.receives st x.player = true ↔
        (s.station st).code ≠ .absent ∧ (st = s.tables.renderer ∨ (s.tables.routes.get st).get x.player = true)) ∧
        (∀ st, s.receives st x.player = true →
          (issue v ev s).station st = (placeEvent st v x.gen x.player x.use ev s).station st) ∧
        (∀ st, s.receives st x.player = false → (issue v ev s).station st = s.station st) ∧
        ((∀ st, st ≠ s.tables.renderer → (s.station st).waiting.length ≤ 160) →
          ∀ st, st ≠ s.tables.renderer → ((issue v ev s).station st).waiting.length ≤ 160)

/-! ### The station link -/

/-- DOWNSTREAM_SLOT. The slot has 13 bytes whose XOR is 0; byte 0 holds the part state, the attention mark and the
grant; byte 1 the kind (1 START, 2 PITCH, 3 LEVEL, 4 RELEASE, 5 CUT, 6 SYNC), the event toggle and the return echo; the
kind's fields stand in bytes 2 to 9, the others zero; bytes 10 and 11 hold the message lane. Where the code delivers
and nothing is in flight, the head of the waiting list enters the delivery position with the toggle opposite to the
echo; an entry in flight stays; under HOLD and ABSENT nothing is presented. A new response byte is offered with the
opposite toggle. LSY marks station 0's slot for its first bit time, and LDO is low again once the slot's 104 bits are
out, whatever lets the time pass. Only that station's queue, delivery position and lane, the pins and the passing of
time change (R121, R123, R130, R131, R139, R145, R176). Time passing at this command (entry 4), and that an ABSENT
station whose lane is SENDING shows IDLE while its byte waits (entry 20), are the model's choices. -/
def Obligations.DownstreamSlotShowsState : Prop :=
  ∀ (st : Station) (s : State), s.resetHeld = false →
    ∃ t b, exec (.downstreamSlot st) s = .next t ∧
      let x := s.station st
      let y := t.station st
      let delivers := x.code = .ready ∨ x.code = .releaseAll ∨ x.code = .cutAll
      let bit := fun (f : Bool) (k : Nat) => (if f then 1 else 0 : Byte) <<< k
      t = { s.advanceTo (250 * st.val) with stations := t.stations, pins := { s.pins with ldo := b, lsy := decide (st = 0) } } ∧
      (∀ d, let later := (t.advanceTo (t.bitTime + d)).pins
        later.lsy = (decide (st = 0) && decide (d = 0)) ∧
          later.ldo = if d = 0 ∨ t.bitTime % 250 + d < 104 then b else []) ∧
      (∀ o, o ≠ st → t.station o = s.station o) ∧
      y = { x with
        waiting := y.waiting, delivery := y.delivery, onOffer := y.onOffer, responseToggle := y.responseToggle
        sent := b } ∧
      (delivers → x.delivery = none → ∀ e w, x.waiting = e :: w → y.delivery = some (e, !x.echo) ∧ y.waiting = w) ∧
      (¬ delivers ∨ x.delivery ≠ none ∨ x.waiting = [] → y.delivery = x.delivery ∧ y.waiting = x.waiting) ∧
      (x.lane = .sending → x.onOffer = false → x.code ≠ .absent →
        y.onOffer = true ∧ y.responseToggle = !x.responseToggle) ∧
      (x.lane ≠ .sending ∨ x.onOffer = true ∨ x.code = .absent →
        y.onOffer = x.onOffer ∧ y.responseToggle = x.responseToggle) ∧
      b.length = 13 ∧ b.foldl (fun a c => a ^^^ c) 0 = 0 ∧
      byteAt b 0 = ((match s.partState with | .loading => 0 | .run => 1 | .storing => 2 : Byte) <<< 6) |||
        bit ((List.range 14).any fun k => x.attention.getLsbD k && !x.masked.getLsbD k) 5 |||
        ((match s.grant with | some h => BitVec.ofNat 8 h.val | none => 7 : Byte) <<< 2) ∧
      (¬ delivers ∨ y.delivery = none → byteAt b 1 = bit x.echo 4 ||| bit x.returnToggle 3 ∧
        (b.drop 2).take 8 = List.replicate 8 0) ∧
      (delivers → ∀ e tog, y.delivery = some (e, tog) →
        let two := fun w : BitVec 16 => [w.extractLsb' 8 8, w.extractLsb' 0 8]
        let named := fun (i : Incarnation) (low : Byte) =>
          [(BitVec.ofNat 8 i.voice.val <<< 3) ||| low, i.gen.setWidth 8 <<< 4]
        byteAt b 1 = ((match e with
          | .voice _ _ _ (.start _ _ _ _ _) => 1
          | .voice _ _ _ (.pitch _ _) => 2
          | .voice _ _ _ (.level _) => 3
          | .voice _ _ _ .release => 4
          | .voice _ _ _ .cut => 5
          | .sync => 6 : Byte) <<< 5) ||| bit tog 4 ||| bit x.returnToggle 3 ∧
        (b.drop 2).take 8 = (match e with
          | .voice i p _ (.start L pi bend l g) =>
            named i ((BitVec.ofNat 8 L.val <<< 1) ||| bit (decide (p = .p2)) 0) ++ [BitVec.ofNat 8 pi] ++
              two (BitVec.ofInt 16 bend) ++ two (BitVec.ofNat 16 l) ++ [g]
          | .voice i _ _ (.pitch pi bend) => named i 0 ++ [BitVec.ofNat 8 pi] ++ two (BitVec.ofInt 16 bend) ++ [0, 0, 0]
          | .voice i _ _ (.level l) => named i 0 ++ [0, 0, 0] ++ two (BitVec.ofNat 16 l) ++ [0]
          | .voice i _ _ .release => named i 0 ++ [0, 0, 0, 0, 0, 0]
          | .voice i _ _ .cut => named i 0 ++ [0, 0, 0, 0, 0, 0]
          | .sync => [0, 0, 0, 0, 0, 0, 0, 0])) ∧
      (x.code ≠ .absent → x.lane = .sending → byteAt b 10 = x.response.getD x.position 0 ∧
        byteAt b 11 = (if x.position + 1 < x.response.length then 1 else 2 : Byte) <<< 6 |||
          bit y.responseToggle 4 ||| bit x.requestToggle 3) ∧
      (x.code = .absent ∨ x.lane ≠ .sending → byteAt b 10 = 0 ∧
        byteAt b 11 = bit (decide (x.code ≠ .absent ∧ x.lane = .refusing)) 6 ||| bit (decide (x.code ≠ .absent ∧ x.lane = .refusing)) 7 |||
          bit y.responseToggle 4 ||| bit x.requestToggle 3)

/-- A bad upstream slot is ignored but for the station's candidates, its counter and its run. The one that brings a
present station's run to 16 loses it, and STATION_LOST is that slot (its reading as the row's meaning is the model's,
entry 7): code ABSENT, queue flushed, lane reset, edit request no, the grant free if it was the holder, STATION-CHANGE
at every station still present, and, for the renderer, every voice FREE and no player SOUNDING. A requested restart
that waited is then carried out. LDO and LSY are low at the slot's end (R107, R127, R133, R134, R139, R157, R160,
R176). Time passing at this command (entry 4) and a restart's place at the slot's end (entry 9) are the model's
choices. -/
def Obligations.SixteenBadSlotsLoseStation : Prop :=
  ∀ (st : Station) (drives : List (BitVec 48)) (order : List SlotLane) (s : State), s.resetHeld = false →
    let w := lineWord drives
    let x := s.station st
    upByte w 5 ≠ upByte w 0 ^^^ upByte w 1 ^^^ upByte w 2 ^^^ upByte w 3 ^^^ upByte w 4 →
    (x.restartWaits = false → x.code = .absent ∨ x.badRun + 1 < 16 → exec (.upstreamSlot st drives order) s = .next
      (({ s.advanceTo (250 * st.val + 171) with pins := { s.pins with ldo := [], lsy := false } }.modCounters fun c =>
        { c with badSlots := c.badSlots.set st (min 65535 (c.badSlots.get st + 1)) }).modStation st fun x =>
          { x with badRun := min 16 (x.badRun + 1), candidate := none, editCandidate := none })) ∧
      (x.code ≠ .absent → 16 ≤ x.badRun + 1 →
        ∃ t, exec (.upstreamSlot st drives order) s = .next t ∧ exec (.stationLost st) s = .next t ∧
          (x.restartWaits = true → AtRestartValues t ∧ t.cause = .restartRequest) ∧
          (x.restartWaits = false → GoesAbsent st s t ∧
            (t.station st).code = .absent ∧ (t.station st).candidate = none ∧ (t.station st).waiting = [] ∧
            (t.station st).delivery = none ∧ (t.station st).lane = .receiving ∧ (t.station st).request = [] ∧
            (t.station st).response = [] ∧ (t.station st).editRequest = false ∧
            (s.grant = some st → t.grant = none ∧ (t.station st).yield = 2) ∧ (s.grant ≠ some st → t.grant = s.grant) ∧
            t.tables = s.tables ∧ t.flash = s.flash ∧ t.partState = s.partState ∧
            (∀ o, o ≠ st → t.station o = { s.station o with
              waiting := (t.station o).waiting, attention := (t.station o).attention }) ∧
            (∀ o, o ≠ st → (s.station o).code ≠ .absent → (t.station o).attention.getLsbD 7 = true) ∧
            (st ≠ s.tables.renderer → ∀ p L, t.slot p L = s.slot p L) ∧
            (st = s.tables.renderer → PoolInv s → (∀ v, (t.voice v).state = .free) ∧
              ∀ p, (t.player p).art = if (s.player p).art = .sounding then .quiet else (s.player p).art)))

/-- A good slot clears the bad-slot run and takes its code by the double look: equal to the confirmed code it clears
the candidate; differing it becomes the candidate; differing and equal to the candidate it becomes the confirmed code;
an unrecognized code clears the candidate, advances the counter and leaves the confirmed code (R133, R135, R136).
Codes: 1 READY, 2 HOLD, 4 RELEASE-ALL, 5 CUT-ALL, 15 ABSENT. A confirmed RELEASE-ALL releases every ACTIVE and HELD
voice in start order, a confirmed CUT-ALL cuts every voice in start order, each with its events in the queues, and both
then move every SOUNDING player to QUIET; a confirmed ABSENT ends the station's part in the link; a station that leaves
ABSENT takes its baselines from the slot, and every present station is told; a change to READY or HOLD does nothing
more (R79, R80, R105, R106, R137, R139, R140). -/
def Obligations.StationCodesAreLookedAtTwice : Prop :=
  ∀ (st : Station) (drives : List (BitVec 48)) (order : List SlotLane) (s : State), s.resetHeld = false →
    let w := lineWord drives
    let x := s.station st
    x.restartWaits = false →
    upByte w 5 = upByte w 0 ^^^ upByte w 1 ^^^ upByte w 2 ^^^ upByte w 3 ^^^ upByte w 4 →
    ∃ t, exec (.upstreamSlot st drives order) s = .next t ∧ (t.station st).badRun = 0 ∧
      let y := t.station st
      let shown := (upByte w 0).toNat / 16
      (∀ c, (shown, c) ∈ [(1, Code.ready), (2, Code.hold), (4, Code.releaseAll), (5, Code.cutAll), (15, Code.absent)] →
        (c = x.code → y.code = x.code ∧ y.candidate = none) ∧
        (c ≠ x.code → x.candidate ≠ some c → y.code = x.code ∧ y.candidate = some c) ∧
        (c ≠ x.code → x.candidate = some c → y.code = c ∧ y.candidate = none ∧ (c = .absent → GoesAbsent st s t) ∧
          ∀ r : State, (r.station st).code ≠ c → (r.station st).candidate = some c →
            let u := readSlot w
            let left := decide ((r.station st).code = .absent)
            let named := r.modStation st fun z => { z with
              code := c, candidate := none
              echo := if left then u.echo else z.echo, returnToggle := if left then u.returnToggle else z.returnToggle
              requestToggle := if left then u.toggle else z.requestToggle
              responseToggle := if left then u.ack else z.responseToggle }
            let told := fun z : State => if left then broadcast .stationChange z else z
            (c = .ready ∨ c = .hold → takeCode st u r = told named) ∧
            (c = .releaseAll →
              takeCode st u r = told (quieted (r.startOrder.foldl (fun z v => releaseVoice v z) named)) ∧
              (PoolInv r → ∀ v, (takeCode st u r).voice v =
                if (r.voice v).state = .active ∨ (r.voice v).state = .held then
                  { r.voice v with state := .releasing, releaseTaken := false } else r.voice v)) ∧
            (c = .cutAll →
              takeCode st u r = told (quieted (r.startOrder.foldl (fun z v => cutVoice v z) named)) ∧
              (PoolInv r → ∀ v, ((takeCode st u r).voice v).state = .free)) ∧
            (c = .absent → GoesAbsent st r ((takeCode st u r).modStation st fun z => { z with editCandidate := none })) ∧
            ∀ v, (r.voice v).state ≠ .free → ∀ o, (cutVoice v r).station o = (issue v .cut r).station o)) ∧
      (shown ∉ [1, 2, 4, 5, 15] → y.code = x.code ∧ y.candidate = none ∧
        ∀ r : State, takeCode st (readSlot w) r =
          (r.modCounters fun c => { c with unrecognizedCodes := min 65535 (c.unrecognizedCodes + 1) }).modStation st
            fun z => { z with candidate := none })

/-- A good upstream slot. After its code, a slot whose code field is not ABSENT, of a station then present, is
processed in full: echo, return, edit request and message, in the order the operand gives (entry 3); any other has its
edit-request candidate dropped; then a restart that waits for the lane is carried out where the lane is free. The echo
becomes the current one, and acknowledges the in-flight entry when equal to its toggle; the renderer's acknowledgement
of a RELEASE sets release-taken and starts the timer with the timeout standing, for a RELEASING voice of that
generation (and of that use, the model's reading, entry 29). A return field with a new toggle is processed, and judged
by the pool if it is valid and the renderer's. The slot in which a station leaves ABSENT brings no echo, no return and
no message byte (R98, R121, R122, R138, R140 to R142, R157, R158). That time passes to bit 171 of the station's period
at this command (entry 4), and that a waiting restart is carried out at the slot's end (entry 9), are the model's
choices. -/
def Obligations.UpstreamSlotTakesEchoAndReturn : Prop :=
  ∀ (st : Station) (s : State),
    (∀ (drives : List (BitVec 48)) (order : List SlotLane), s.resetHeld = false →
      order.Nodup → order.length = 4 →
      let w := lineWord drives
      let u := readSlot w
      upByte w 5 = upByte w 0 ^^^ upByte w 1 ^^^ upByte w 2 ^^^ upByte w 3 ^^^ upByte w 4 →
      let ended := { s.advanceTo (250 * st.val + 171) with pins := { s.pins with ldo := [], lsy := false } }
      let t := takeCode st u (ended.modStation st fun x => { x with badRun := 0 })
      let lane := fun (z : State) (l : SlotLane) => match l with
        | .echo => takeEcho st u.echo z
        | .giveBack => takeReturnField st u z
        | .edit => lookEdit st u.edit z
        | .message => takeMessage st u z
      let done := if (upByte w 0).toNat / 16 ≠ 15 ∧ (t.station st).code ≠ .absent then order.foldl lane t
        else t.modStation st fun x => { x with editCandidate := none }
      let due := (done.station st).restartWaits = true ∧ (done.station st).lane = .receiving
      (¬ due → exec (.upstreamSlot st drives order) s = .next done) ∧
        (due → exec (.upstreamSlot st drives order) s = exec .restartRequest done)) ∧
    (∀ echo : Bool,
      let x := s.station st
      let heard := s.modStation st fun x => { x with echo := echo }
      let cleared := s.modStation st fun x => { x with echo := echo, delivery := none }
      (∀ e tog, x.delivery = some (e, tog) → tog ≠ echo → takeEcho st echo s = heard) ∧
        (x.delivery = none → takeEcho st echo s = heard) ∧
        (∀ e, x.delivery = some (e, echo) →
          (∀ i p use, e = .voice i p use .release → st = s.tables.renderer →
            let y := s.voice i.voice
            (y.state = .releasing → y.gen = i.gen → y.use = use → y.releaseTaken = false → takeEcho st echo s =
              cleared.modVoice i.voice fun y =>
                { y with releaseTaken := true, timer := some (s.tables.returnSteps * 100 * 4000) }) ∧
            (¬ (y.state = .releasing ∧ y.gen = i.gen ∧ y.use = use ∧ y.releaseTaken = false) →
              takeEcho st echo s = cleared)) ∧
          ((∀ i p use, e ≠ .voice i p use .release) ∨ st ≠ s.tables.renderer → takeEcho st echo s = cleared))) ∧
    ∀ u : UpSlot,
      let x := s.station st
      let processed := s.modStation st fun x => { x with returnToggle := u.returnToggle }
      (u.returnToggle = x.returnToggle → takeReturnField st u s = s) ∧
        (u.returnToggle ≠ x.returnToggle → u.valid = true → st = s.tables.renderer →
          takeReturnField st u s = takeReturn u.voice u.gen processed) ∧
        (u.returnToggle ≠ x.returnToggle → u.valid = false ∨ st ≠ s.tables.renderer →
          takeReturnField st u s = processed) ∧
        (AbsentInv s → x.code = .absent → x.lane = .receiving → u.flag ≠ 3 →
          ∀ c, (u.code.toNat, c) ∈ [(1, Code.ready), (2, .hold), (4, .releaseAll), (5, .cutAll)] → x.candidate = some c →
          let t := takeCode st u s
          takeEcho st u.echo t = t ∧ takeReturnField st u t = t ∧ takeMessage st u t = t)

/-- A slot of a present station showing its confirmed code takes the edit-request bit by the double look, and the
holder's confirmed no frees the grant, sets its yield count to 2 and tells every other present station (R138, R158,
R160). -/
def Obligations.EditRequestsAreLookedAtTwice : Prop :=
  ∀ (st : Station) (drives : List (BitVec 48)) (order : List SlotLane) (s : State), s.resetHeld = false →
    let w := lineWord drives
    let x := s.station st
    x.restartWaits = false → x.code ≠ .absent →
    upByte w 5 = upByte w 0 ^^^ upByte w 1 ^^^ upByte w 2 ^^^ upByte w 3 ^^^ upByte w 4 →
    (x.code, (upByte w 0).toNat / 16) ∈ [(Code.ready, 1), (.hold, 2), (.releaseAll, 4), (.cutAll, 5)] →
    ∃ t, exec (.upstreamSlot st drives order) s = .next t ∧
      let y := t.station st
      let b := (upByte w 0).getLsbD 3
      (b = x.editRequest → y.editRequest = b ∧ y.editCandidate = none ∧ t.grant = s.grant) ∧
      (b ≠ x.editRequest → x.editCandidate ≠ some b →
        y.editRequest = x.editRequest ∧ y.editCandidate = some b ∧ t.grant = s.grant) ∧
      (b ≠ x.editRequest → x.editCandidate = some b → y.editRequest = b ∧ y.editCandidate = none ∧
        (b = true ∨ s.grant ≠ some st → t.grant = s.grant) ∧
        (b = false → s.grant = some st → t.grant = none ∧ y.yield = 2 ∧
          ∀ o, o ≠ st → (s.station o).code ≠ .absent → (t.station o).attention.getLsbD 8 = true))

/-- The message fields of a slot, by the lane's state. RECEIVING takes a new byte (BODY 1 or END 2 with a new toggle)
into a buffer of fewer than 40, refuses a 41st into REFUSING, empties its buffer at ABORT 3; the END byte executes the
request, with exactly the effect of the request's command on the part with that byte accepted, or answers UNKNOWN or
LENGTH. SENDING takes the byte on offer at its ack, or drops the response at ABORT; REFUSING ends at IDLE 0. Anything
else changes nothing (R143 to R145, R150). -/
def Obligations.MessageLaneMovesBytes : Prop :=
  ∀ (st : Station) (u : UpSlot) (s : State), s.resetHeld = false →
    let x := s.station st
    let t := takeMessage st u s
    let accepted := s.modStation st fun x => { x with request := x.request ++ [u.message], requestToggle := u.toggle }
    let bytes := x.request ++ [u.message]
    let new := (u.flag = 1 ∨ u.flag = 2) ∧ u.toggle ≠ x.requestToggle
    let idle := fun x : StationState =>
      { x with lane := .receiving, request := [], response := [], position := 0, onOffer := false }
    (x.lane = .receiving →
      (new → x.request.length < 40 → u.flag = 1 → t = accepted) ∧
      (new → x.request.length < 40 → u.flag = 2 →
        (∀ r, decodeRequest bytes = .ok r → exec (r.command st) accepted = .next t) ∧
        (decodeRequest bytes = .error .unknown → t = accepted.modStation st (StationState.answering [0x14])) ∧
        (decodeRequest bytes = .error .length → t = accepted.modStation st (StationState.answering [0x13]))) ∧
      (new → 40 ≤ x.request.length → t = s.modStation st fun x => { x with lane := .refusing, request := [] }) ∧
      (u.flag = 3 → t = s.modStation st fun x => { x with request := [] }) ∧ (¬ new → u.flag ≠ 3 → t = s)) ∧
      (x.lane = .sending →
        (u.flag = 3 → t = s.modStation st idle) ∧
        (u.flag ≠ 3 → x.onOffer = true → u.ack = x.responseToggle →
          (x.position + 1 < x.response.length →
            t = s.modStation st fun x => { x with position := x.position + 1, onOffer := false }) ∧
          (x.response.length ≤ x.position + 1 → t = s.modStation st idle)) ∧
        (u.flag ≠ 3 → x.onOffer = false ∨ u.ack ≠ x.responseToggle → t = s)) ∧
      (x.lane = .refusing → (u.flag = 0 → t = s.modStation st idle) ∧ (u.flag ≠ 0 → t = s))

/-- FRAME_SYNC. A FREE grant goes to the lowest-addressed station whose confirmed edit request is yes and whose yield
count is 0, and every present station is told; a held grant stays. Then each yield count falls by one while the grant is
FREE and goes back to 2 while it is held. The place in the frame is its start, the link clock runs, and nothing else but
the rest of the last frame's time changes (R130, R159 to R161). Time passing at this command is the model's choice
(entry 4). -/
def Obligations.FrameSyncAwardsGrant : Prop :=
  ∀ s : State, s.resetHeld = false →
    let asks := fun st : Station => (s.station st).editRequest = true ∧ (s.station st).yield = 0
    ∃ t, exec .frameSync s = .next t ∧
      t = { s.nextFrame with grant := t.grant, stations := t.stations, pins := { s.pins with lck := true, ldo := [], lsy := false } } ∧
      t.bitTime = 0 ∧
      (s.grant ≠ none ∨ (∀ st, ¬ asks st) → t.grant = s.grant) ∧
      (s.grant = none → ∀ st, asks st → (∀ o, o < st → ¬ asks o) → t.grant = some st ∧
        ∀ o, (s.station o).code ≠ .absent → (t.station o).attention.getLsbD 8 = true) ∧
      ∀ st, t.station st =
        { s.station st with
          attention := if s.grant = t.grant then (s.station st).attention else (t.station st).attention
          yield := if t.grant = none then (s.station st).yield - 1 else if (s.station st).yield = 0 then 0 else 2 }

/-! ### Requests -/

/-- The checks of a request in their order, the first that fails deciding: BUSY in LOADING for all but READ-STATUS;
NOT-HOLDER for a marked request without the grant; BUSY in STORING for the requests that a store bars; BAD-INDEX for an
index that names nothing. A refused request changes nothing but the station's lane, whose response is the status alone
(R148, R150, checks 3 to 6). -/
def Obligations.RefusedRequestsChangeNothing : Prop :=
  ∀ (r : Request) (st : Station) (s : State), s.resetHeld = false →
    (s.partState = .loading → r ≠ .readStatus → Answers (r.command st) st s [0x11]) ∧
      (s.partState ≠ .loading → r.marked = true → s.grant ≠ some st → Answers (r.command st) st s [0x10]) ∧
      (s.partState = .storing → r.barredByStore = true → s.grant = some st → Answers (r.command st) st s [0x11]) ∧
      (s.partState ≠ .loading → (r.marked = true → s.grant = some st) →
        (r.barredByStore = true → s.partState ≠ .storing) → r.namesNothing → Answers (r.command st) st s [0x12])

/-- Every read request served answers OK and the fields the catalogue names, as they stand, and changes nothing but the
station's lane (R27, R49, R50, R64, R108, R114, R148, R149, R152, R153, R166). -/
def Obligations.ReadsAnswerStoredFields : Prop :=
  ∀ (st : Station) (s : State), s.serves →
    let byte := fun n : Nat => BitVec.ofNat 8 n
    let two := fun n : Nat => [BitVec.ofNat 8 (n / 256), BitVec.ofNat 8 n]
    let three := fun w : BitVec 24 => [w.extractLsb' 16 8, w.extractLsb' 8 8, w.extractLsb' 0 8]
    let flag := fun b : Bool => (if b then 1 else 0 : Byte)
    let c := s.counters
    Answers (.readCounters st) st s
        (0 :: ([c.steals, c.droppedLayers, c.reclaims, c.earlyReturns, c.lateReturns, c.staleReturns, c.overflows,
          c.sensorFaults, c.unrecognizedCodes, c.badSlots.get 0, c.badSlots.get 1, c.badSlots.get 2,
          c.badSlots.get 3].flatMap two)) ∧
      (∀ i : EntryNo, let e := s.tables.entries.get i
        Answers (.readEntry st (byte i.val)) st s
          ([0, flag e.valid, byte e.chart.val] ++ three e.care ++ three e.pattern ++ [byte e.pitch])) ∧
      (∀ k : Fin 4, let h := s.tables.charts.get k
        Answers (.readChart st (byte k.val)) st s [0, flag (decide (h.fallback = .base)), byte h.base]) ∧
      (∀ (k : Fin 4) (w : BitVec 24),
        (∀ i, winner s.tables.entries k w = some i → Answers (.resolve st (byte k.val) w) st s
          [0, byte (s.tables.entries.get i).pitch, byte i.val,
            byte ((List.range 24).filter fun b => (s.tables.entries.get i).care.getLsbD b).length]) ∧
        (winner s.tables.entries k w = none → Answers (.resolve st (byte k.val) w) st s
          [0, byte (s.tables.charts.get k).base, 0xFF, 0])) ∧
      (∀ (y : Fin 8) (L : LayerNo), let z := (s.tables.layers.get y).get L
        Answers (.readLayer st (byte y.val) (byte L.val)) st s
          ([0, flag z.present, BitVec.ofInt 8 z.interval] ++ two z.scale ++
            [byte z.curve.val, z.program, byte z.low, byte z.high])) ∧
      (∀ k : Fin 4, Answers (.readCurve st (byte k.val)) st s (0 :: (s.tables.curves.get k).list.flatMap two)) ∧
      (∀ p, let x := s.settings p
        Answers (.readPlayer st (match p with | .p1 => 1 | .p2 => 2)) st s
          ([0, flag x.enabled, flag x.captureOnEnable, byte x.chart.val, byte x.layerSet.val, BitVec.ofInt 8 x.transpose,
            byte x.settleMs] ++ two x.gain ++ two x.onThreshold ++ two x.offThreshold ++
            [byte x.k, byte x.deadBand, flag (decide (x.mode = .retrigger)), byte x.bendDepth] ++ two x.deadzone ++
            [flag x.drift, byte x.reserve] ++ two (s.player p).offset ++ two (s.player p).centre)) ∧
      Answers (.readPart st) st s [0, byte s.tables.renderer.val, byte s.tables.returnSteps] ∧
      (∀ k : Station, let m := s.tables.routes.get k
        Answers (.readRoute st (byte k.val)) st s [0, flag m.p1 ||| (flag m.p2 <<< 1)]) ∧
      (∀ v : VoiceNo, let x := s.voice v
        let code : Byte := match x.state with | .free => 0 | .active => 1 | .held => 2 | .releasing => 3
        Answers (.readVoice st (byte v.val)) st s
          ([0, code, x.gen.setWidth 8, (match x.player with | .p1 => 1 | .p2 => 2), byte x.layer.val, byte x.pitch] ++
            [(BitVec.ofInt 16 x.bend).extractLsb' 8 8, (BitVec.ofInt 16 x.bend).extractLsb' 0 8] ++ two x.level ++
            [x.program, byte x.curve.val] ++ two x.scale ++ two x.s ++ two x.lastLevel ++ [flag x.releaseTaken] ++
            two (match x.timer with | some d => (d + 3999) / 4000 | none => 0))) ∧
      (∃ l, Answers (.readPool st) st s (0 :: l) ∧ l.length = 32 ∧ ∀ v : VoiceNo, let x := s.voice v
        let code : Byte := match x.state with | .free => 0 | .active => 1 | .held => 2 | .releasing => 3
        byteAt l v.val = (code <<< 6) ||| (x.gen.setWidth 8 <<< 2) ||| flag (decide (x.player = .p2))) ∧
      (let x := s.station st;
        Answers (.readAttention st) st s
          [0, (x.attention.setWidth 16).extractLsb' 8 8, (x.attention.setWidth 16).extractLsb' 0 8,
            (x.masked.setWidth 16).extractLsb' 8 8, (x.masked.setWidth 16).extractLsb' 0 8])

/-- READ-STATUS is served in every part state, and alone is served in LOADING. Its 42 bytes after the status give part
state, restart cause, grant holder (7 for FREE), the four confirmed codes, the free-voice count, and 17 bytes for each
player: state, channel faults, fingering word, octave offset, hold state, and the note record, an empty one for a
player that is not SOUNDING (R148, R149). -/
def Obligations.StatusReportsPart : Prop :=
  ∀ (st : Station) (s : State), s.resetHeld = false →
    (s.partState = .loading → ∀ r, r ≠ .readStatus → Answers (Request.command st r) st s [0x11]) ∧
    ∃ b, Answers (.readStatus st) st s (0 :: b) ∧ b.length = 42 ∧
      byteAt b 0 = (match s.partState with | .loading => 0 | .run => 1 | .storing => 2) ∧
      byteAt b 1 = (match s.cause with | .powerOn => 0 | .resetLine => 1 | .restartRequest => 2) ∧
      byteAt b 2 = (match s.grant with | some h => BitVec.ofNat 8 h.val | none => 7) ∧
      (∀ k : Station, byteAt b (3 + k.val) =
        (match (s.station k).code with | .ready => 1 | .hold => 2 | .releaseAll => 4 | .cutAll => 5 | .absent => 15)) ∧
      byteAt b 7 = BitVec.ofNat 8 s.freeList.length ∧
      ∀ p, let q := s.player p
        let k := match p with | .p1 => 8 | .p2 => 25
        byteAt b k = (match q.art with
          | .disabled => 0 | .warmup => 1 | .capture => 2 | .silent => 3 | .sounding => 4 | .quiet => 5) ∧
        byteAt b (k + 1) = (if q.breath.state = .fault then 1 else 0) + (if q.lip.state = .fault then 2 else 0) ∧
        threeAt b (k + 2) = q.word ∧ byteAt b (k + 5) = BitVec.ofInt 8 q.octave ∧
        byteAt b (k + 6) = (if q.held then 1 else 0) ∧
        (q.art ≠ .sounding → (b.drop (k + 7)).take 10 = [0, 0xFF, 0xFF, 0, 0xFF, 0, 0xFF, 0, 0xFF, 0]) ∧
        (q.art = .sounding → ∀ r, q.note = some r → byteAt b (k + 7) = BitVec.ofNat 8 r.base ∧
          byteAt b (k + 8) = (match r.source with | some i => BitVec.ofNat 8 i.val | none => 0xFF) ∧
          ∀ L : LayerNo, (r.slots.get L = none →
              byteAt b (k + 9 + 2 * L.val) = 0xFF ∧ byteAt b (k + 10 + 2 * L.val) = 0) ∧
            ∀ i, r.slots.get L = some i → byteAt b (k + 9 + 2 * L.val) = BitVec.ofNat 8 i.voice.val ∧
              byteAt b (k + 10 + 2 * L.val) = i.gen.setWidth 8)

/-- Writes of entries, charts, layers and curves, and CLEAR-ENTRY and CLEAR-COUNTERS, by the grant's holder: the
object's fields are replaced together, each at the nearest value of its range, the pattern within the care mask;
CLAMPED (2) where a field was brought into range, normalization not counted, else OK (0); nothing else changes but the
station's lane (R44, R48 to R50, R150, R151, R154, R166). CLEAR-COUNTERS is served in STORING too (R150, check 5). -/
def Obligations.WritesReplaceWholeObjects : Prop :=
  ∀ (st : Station) (s : State),
    let status := fun clamped : Prop => fun _ : Decidable clamped => (if clamped then [2] else [0] : List Byte)
    (s.writes st → ∀ (i : EntryNo) (f : RawEntry) (k : Fin 4), f.chart = BitVec.ofNat 8 k.val →
      Brings (.writeEntry st (BitVec.ofNat 8 i.val) f) st s
        (s.modTables fun t => { t with
          entries := t.entries.set i
            { valid := decide (f.valid ≠ 0), chart := k, care := f.care, pattern := f.pattern &&& f.care
              pitch := min 127 f.pitch.toNat } })
        (status (1 < f.valid.toNat ∨ 127 < f.pitch.toNat) inferInstance)) ∧
      (s.writes st → ∀ i : EntryNo, Brings (.clearEntry st (BitVec.ofNat 8 i.val)) st s
        (s.modTables fun t => { t with
          entries := t.entries.set i { valid := false, chart := 0, care := 0, pattern := 0, pitch := 0 } }) [0]) ∧
      (s.writes st → ∀ (k : Fin 4) (fb base : Byte), Brings (.writeChart st (BitVec.ofNat 8 k.val) fb base) st s
        (s.modTables fun t => { t with
          charts := t.charts.set k { fallback := if fb = 0 then .hold else .base, base := min 127 base.toNat } })
        (status (1 < fb.toNat ∨ 127 < base.toNat) inferInstance)) ∧
      (s.writes st → ∀ (y : Fin 8) (L : LayerNo) (f : RawLayer) (k : Fin 4), f.curve = BitVec.ofNat 8 k.val →
        Brings (.writeLayer st (BitVec.ofNat 8 y.val) (BitVec.ofNat 8 L.val) f) st s
          (s.modTables fun t => { t with
            layers := t.layers.set y ((t.layers.get y).set L
              { present := decide (f.present ≠ 0), interval := max (-36) (min 36 f.interval.toInt)
                scale := min 256 f.scale.toNat, curve := k, program := f.program, low := min 127 f.low.toNat
                high := min 127 f.high.toNat }) })
          (status (1 < f.present.toNat ∨ f.interval.toInt < -36 ∨ 36 < f.interval.toInt ∨ 256 < f.scale.toNat ∨
            127 < f.low.toNat ∨ 127 < f.high.toNat) inferInstance)) ∧
      (s.writes st → ∀ (k : Fin 4) (c : RawCurve), Brings (.writeCurve st (BitVec.ofNat 8 k.val) c) st s
        (s.modTables fun t => { t with curves := t.curves.set k (Tab.ofFn fun i => min 1023 (c.get i).toNat) })
        (status (∃ i, 1023 < (c.get i).toNat) inferInstance)) ∧
      (s.edits st → Brings (.clearCounters st) st s
        { s with counters := ⟨0, 0, 0, 0, 0, 0, 0, 0, 0, Tab.const 4 0⟩ } [0])

/-- WRITE-PLAYER by the grant's holder. The settings are stored first, each at the nearest value of its range, the off-
threshold below the clamped on-threshold; the longer form stores the calibration values; drift tracking written off
clears the drift block. Where the enabled setting stands, nothing else changes. An enable moves the player to WARMUP
from count 0 with its take-over mark set. A disable, in a state whose lists are right, makes the player DISABLED with
no note, its settle timer stopped, its channels NORMAL with run 0 and every capture and warm-up value clear, and its
ACTIVE and HELD voices RELEASING, their RELEASE entries issued in start order, no other voice touched; where a channel
leaves FAULT, SENSOR is pending for every present station and no counter moves for it; a sweep in progress converts it
no more, and a scan in progress hands nothing on for it (R2, R6, R10, R13, R24, R25, R82, R83, R151, R154, R155). That
a scan which was to perform the player's take-over then looks twice instead is the model's reading (entry 15). -/
def Obligations.WritePlayerStoresThenEnables : Prop :=
  ∀ (st : Station) (p : Player) (f : RawSettings) (cal : Option RawCalibration) (k : Fin 4) (y : Fin 8) (s : State),
    s.writes st → f.chart = BitVec.ofNat 8 k.val → f.layerSet = BitVec.ofNat 8 y.val →
    let on := max 1 (min 4095 f.onThreshold.toNat)
    let x : Settings :=
      { enabled := decide (f.enabled ≠ 0), captureOnEnable := decide (f.captureOnEnable ≠ 0), chart := k, layerSet := y
        transpose := max (-24) (min 24 f.transpose.toInt), settleMs := min 30 f.settleMs.toNat
        gain := min 1023 f.gain.toNat, onThreshold := on, offThreshold := min (on - 1) f.offThreshold.toNat
        k := max 1 (min 16 f.k.toNat), deadBand := max 1 (min 64 f.deadBand.toNat)
        mode := if f.mode = 0 then .legato else .retrigger, bendDepth := f.bendDepth.toNat
        deadzone := min 511 f.deadzone.toNat, drift := decide (f.drift ≠ 0), reserve := min 16 f.reserve.toNat }
    let status : List Byte :=
      if x.raw = f ∧ ∀ c, cal = some c → c.offset.toNat ≤ 4095 ∧ c.centre.toNat ≤ 4095 then [0] else [2]
    let stored := (s.modTables fun t => { t with settings := t.settings.set p x }).modPlayer p fun q =>
      { q with
        offset := match cal with | some c => min 4095 c.offset.toNat | none => q.offset
        centre := match cal with | some c => min 4095 c.centre.toNat | none => q.centre
        driftCount := if x.drift then q.driftCount else 0
        driftSum := if x.drift then q.driftSum else 0 }
    let command := Instr.writePlayer st (match p with | .p1 => 1 | .p2 => 2) f cal
    (x.enabled = (s.settings p).enabled → Brings command st s stored status) ∧
      (x.enabled = true → (s.settings p).enabled = false → Brings command st s
        (stored.modPlayer p fun q => { q with art := .warmup, warmup := 0, takeOver := true }) status) ∧
      (x.enabled = false → (s.settings p).enabled = true → PoolInv s →
        ∃ t, Brings command st s t status ∧
          PoolWorkOnly { stored with
            sweep := s.sweep.map fun w => { w with set := w.set.set p false }
            scan := s.scan.map fun w => { w with enabled := w.enabled.set p false, takeOver := w.takeOver.set p false } } t ∧
          (let order := s.startOrder.filter fun v => decide ((s.voice v).player = p ∧
              ((s.voice v).state = .active ∨ (s.voice v).state = .held))
            let told := order.foldl (fun u v => releaseVoice v u) stored
            let faulted := (s.player p).breath.state = .fault ∨ (s.player p).lip.state = .fault
            (s.rendererPresent = true → (t.station s.tables.renderer).waiting =
              (s.station s.tables.renderer).waiting ++
                order.map fun v => .voice ⟨v, (s.voice v).gen⟩ p (s.voice v).use .release) ∧
            (∀ o, (t.station o).waiting = (told.station o).waiting ∧ (t.station o).attention =
              if faulted ∧ (s.station o).code ≠ .absent then (told.station o).attention ||| 2
              else (told.station o).attention) ∧
            t.counters = told.counters) ∧
          t.freeList = s.freeList ∧
          t.startOrder = s.startOrder ∧ t.player p.other = s.player p.other ∧
          t.player p =
            { stored.player p with
              art := .disabled, note := none, settle := none, breath := ⟨.normal, 0⟩, lip := ⟨.normal, 0⟩, warmup := 0
              captureCount := 0, breathSum := 0, lipSum := 0, breathTaint := false, lipTaint := false
              captureFor := none, driftCount := 0, driftSum := 0, takeOver := false } ∧
          ∀ v, t.voice v =
            if (s.voice v).player = p ∧ ((s.voice v).state = .active ∨ (s.voice v).state = .held) then
              { s.voice v with state := .releasing, releaseTaken := false } else s.voice v)

/-- WRITE-PART and WRITE-ROUTE by the grant's holder. WRITE-PART stores the return timeout within 1 to 50 steps;
another renderer is named only while every voice is FREE, else BUSY with neither field stored, and loses its waiting
entries. WRITE-ROUTE stores the mask; at a station that is not the renderer the waiting entries of a player whose mark
goes off are removed and, where a mark goes on at a present station, a SYNC is appended, which overflows a full queue
to one SYNC (R99, R107, R114, R125, R126, R128, R150, R151, R156). One SYNC where both marks go on is the model's
choice (entry 12). -/
def Obligations.WritePartAndRouteMoveQueues : Prop :=
  ∀ (st : Station) (s : State), s.writes st →
    (∀ (r : Station) (steps : Byte),
      let status : List Byte := if steps = 0 ∨ 50 < steps.toNat then [2] else [0]
      let command := Instr.writePart st (BitVec.ofNat 8 r.val) steps
      let timed := s.modTables fun t => { t with returnSteps := max 1 (min 50 steps.toNat) }
      (r = s.tables.renderer → Brings command st s timed status) ∧
      (r ≠ s.tables.renderer → (∃ v, (s.voice v).state ≠ .free) → Answers command st s [0x11]) ∧
      (r ≠ s.tables.renderer → (∀ v, (s.voice v).state = .free) → Brings command st s
        ((timed.modTables fun t => { t with renderer := r }).modStation r fun x => { x with waiting := [] }) status)) ∧
    ∀ (o : Station) (m : Byte),
      let old := s.tables.routes.get o
      let new : Pair Bool := ⟨m.getLsbD 0, m.getLsbD 1⟩
      let status : List Byte := if 3 < m.toNat then [2] else [0]
      let command := Instr.writeRoute st (BitVec.ofNat 8 o.val) m
      let stored := s.modTables fun t => { t with routes := t.routes.set o new }
      let kept := (s.station o).waiting.filter fun e =>
        !((old.p1 && !new.p1 && e.isOf .p1) || (old.p2 && !new.p2 && e.isOf .p2))
      let gained := (old.p1 = false ∧ new.p1 = true) ∨ (old.p2 = false ∧ new.p2 = true)
      (o = s.tables.renderer → Brings command st s stored status) ∧
      (o ≠ s.tables.renderer → ¬ gained ∨ (s.station o).code = .absent → Brings command st s
        (stored.modStation o fun x => { x with waiting := kept }) status) ∧
      (o ≠ s.tables.renderer → gained → (s.station o).code ≠ .absent → kept.length < 160 → Brings command st s
        (stored.modStation o fun x => { x with waiting := kept ++ [.sync] }) status) ∧
      (o ≠ s.tables.renderer → gained → (s.station o).code ≠ .absent → 160 ≤ kept.length → Brings command st s
        ((stored.modCounters fun c => { c with overflows := min 65535 (c.overflows + 1) }).modStation o fun x =>
          { x with waiting := [.sync], attention := x.attention ||| 4 }) status)

/-- Attention requests. TAKE-ATTENTION answers the lowest-numbered kind that is pending and not masked and clears it,
or FFh where there is none; CLEAR, MASK and UNMASK act on the kinds of their set alone, CLAMPED where bits 14 or 15
were set; SIGNAL sets kind 13 for a present station and answers 1, else 0. Nothing else changes but the station's lane
(R151, R164, R165). -/
def Obligations.AttentionRequestsActOnOwnSets : Prop :=
  ∀ (st : Station) (s : State), s.serves →
    let x := s.station st
    let shown := fun (k : Nat) => x.attention.getLsbD k = true ∧ x.masked.getLsbD k = false;
    ((∀ k < 14, ¬ shown k) → Answers (.takeAttention st) st s [0, 0xFF]) ∧
      (∀ k < 14, shown k → (∀ j < k, ¬ shown j) → ∃ rest : BitVec 14,
        Brings (.takeAttention st) st s (s.modStation st fun x => { x with attention := rest }) [0, BitVec.ofNat 8 k] ∧
          ∀ j < 14, rest.getLsbD j = (x.attention.getLsbD j && decide (j ≠ k))) ∧
      (∀ w : BitVec 16, let status : List Byte := if 0x3FFF < w.toNat then [2] else [0]
        ∃ cleared more fewer : BitVec 14,
          Brings (.clearAttention st w) st s (s.modStation st fun x => { x with attention := cleared }) status ∧
          Brings (.maskAttention st w) st s (s.modStation st fun x => { x with masked := more }) status ∧
          Brings (.unmaskAttention st w) st s (s.modStation st fun x => { x with masked := fewer }) status ∧
          ∀ k < 14, cleared.getLsbD k = (x.attention.getLsbD k && !w.getLsbD k) ∧
            more.getLsbD k = (x.masked.getLsbD k || w.getLsbD k) ∧
            fewer.getLsbD k = (x.masked.getLsbD k && !w.getLsbD k)) ∧
      ∀ o : Station,
        ((s.station o).code = .absent → Answers (.signal st (BitVec.ofNat 8 o.val)) st s [0, 0]) ∧
          ((s.station o).code ≠ .absent → Brings (.signal st (BitVec.ofNat 8 o.val)) st s
            (s.modStation o fun z => { z with attention := z.attention ||| 0x2000 }) [0, 1])

/-- The requests that begin a long operation, by the grant's holder, answered ACCEPTED. ZERO-CAPTURE of a SILENT player
begins its capture with everything of it clear and the station as requester, and is BUSY in any other state.
STORE-IMAGE takes the snapshot, records the requester and begins the erase, which leaves sector 0 reading FFh.
LOAD-IMAGE, in a safe state, cuts every voice in start order with its CUT or cancellation in the queues, disables both
players and begins the busy wait, the tables standing but for the enabled settings (these going off is the model's
reading, entry 23); each player's channels are NORMAL with run 0 and its warm-up, capture and drift values clear, and
where a channel left FAULT, SENSOR is pending at every present station with no counter moved for it; a sweep in
progress converts neither player any more, and a scan in progress hands nothing on and takes nothing over (R2, R13,
R15, R25, R105, R106, entry 15). That the memory's sector 0 reads FFh from the erase command on is the model's choice
(entry 11). RESTART only marks that a restart waits, which is the model's choice (entry 9) (R7, R84, R157, R169, R170,
R173). -/
def Obligations.LongOperationsBegin : Prop :=
  ∀ (st : Station) (s : State),
    (s.edits st → ∀ p, let command := Instr.zeroCapture st (match p with | .p1 => 1 | .p2 => 2)
      ((s.player p).art ≠ .silent → Answers command st s [0x11]) ∧
      ((s.player p).art = .silent → Brings command st s
        (s.modPlayer p fun q =>
          { q with
            art := .capture, captureCount := 0, breathSum := 0, lipSum := 0, breathTaint := false, lipTaint := false
            captureFor := some st, driftCount := 0, driftSum := 0 }) [1])) ∧
      (s.writes st → ∃ t, Brings (.storeImage st) st s t [1] ∧
        t = { s with
          partState := .storing, snapshot := imageBody s, storeFor := some st, store := some ⟨.erase, 0⟩, port := t.port
          flash := t.flash } ∧
        t.port = [⟨[0x06], 0⟩, ⟨[0x20, 0, 0, 0], 0⟩, ⟨[0x05], 1⟩] ∧
        ∀ a, Memory.read t.flash a = if a < 4096 then 0xFF else Memory.read s.flash a) ∧
      (s.writes st → s.Safe → ∃ t, Brings (.loadImage st) st s t [1] ∧
        PoolWorkOnly { s with
          tables := t.tables, partState := .loading, load := some (.busyWait 0), port := [⟨[0x05], 1⟩]
          sweep := s.sweep.map fun w => { w with set := ⟨false, false⟩ }
          scan := s.scan.map fun w => { w with enabled := ⟨false, false⟩, takeOver := ⟨false, false⟩ } } t ∧
        (∀ v, (t.voice v).state = .free) ∧ t.startOrder = [] ∧ t.freeList = s.freeList ++ s.startOrder ∧
        (∀ p, t.player p = { s.player p with
          art := .disabled, note := none, settle := none, takeOver := false, breath := ⟨.normal, 0⟩, lip := ⟨.normal, 0⟩
          warmup := 0, captureCount := 0, breathSum := 0, lipSum := 0, breathTaint := false, lipTaint := false
          captureFor := none, driftCount := 0, driftSum := 0 }) ∧
        (let cut := s.startOrder.foldl (fun u v => cutVoice v u) s
          let faulted := ∃ p, (s.player p).breath.state = .fault ∨ (s.player p).lip.state = .fault
          (∀ v, t.voice v = cut.voice v) ∧ t.counters = cut.counters ∧
            ∀ o, (t.station o).waiting = (cut.station o).waiting ∧
              (faulted → (s.station o).code ≠ .absent →
                (t.station o).attention = (cut.station o).attention ||| 2) ∧
              (¬ faulted ∨ (s.station o).code = .absent → (t.station o).attention = (cut.station o).attention)) ∧
        t.tables = { s.tables with settings :=
          { p1 := { s.settings .p1 with enabled := false }, p2 := { s.settings .p2 with enabled := false } } }) ∧
      (s.edits st → Brings (.restart st) st s (s.modStation st fun x => { x with restartWaits := true }) [1])

/-! ### The image memory -/

/-- The steps of a load. The busy wait's end begins the header read of page 0; its limit takes the defaults; a header
with tag 5A A7, version 1 and length 2118 begins the body read, any other takes the defaults; a body whose sum agrees
is taken, any other takes the defaults. Each read's transaction keeps the memory selected and clocked until its answer
is in. Taking the defaults tells every present station (IMAGE-DEFAULTED); the end of the load changes the queues as its
renderer and routes do. Where the load is at another step, the command does nothing (R6, R114, R128, R167, R168, R170
to R172, R179). The model's choices: that the answer `stored` is what the part's commands left in the memory (entry
11), that the limit acts at any elapsed time (entry 5), that a gain of both marks places one SYNC (entry 12), that the
renderer change is taken before the routes, so that the old renderer may gain one (entry 13), and the signals between
transactions (entry 22). -/
def Obligations.LoadStepsEndInTablesOrDefaults : Prop :=
  ∀ s : State, s.resetHeld = false →
    let defaulted := fun t : State =>
      LoadEnds s t Tables.defaults (fun _ => 300) (fun _ => 2048) true ∧
        HoldsDefaults t.tables (fun p => decide (p = .p1)) ∧
        ∀ st, (s.station st).code ≠ .absent → (t.station st).attention.getLsbD 12 = true
    let reading := { s.pins with msl := false, mck := true }
    ((∀ e, s.load ≠ some (.busyWait e)) →
        exec .loadBusyWaitEnd s = .next s ∧ exec .loadBusyLimit s = .next s) ∧
      (∀ e, s.load = some (.busyWait e) →
        exec .loadBusyWaitEnd s = .next
          { s with load := some .header, port := [⟨[0x03, 0, 0, 0], 64⟩], pins := reading } ∧
        ∃ t, exec .loadBusyLimit s = .next t ∧ defaulted t) ∧
      (∀ a, s.load ≠ some .header → exec (.loadHeaderRead a) s = .next s) ∧
      (∀ (a : MemAnswer) (h : List Byte), s.load = some .header →
        (a = .stored ∧ h = Memory.readBytes s.flash 0 64) ∨ (a = .bytes h ∧ h.length = 64) →
        let right := h.take 5 = [0x5A, 0xA7, 1, 0x08, 0x46]
        (right → exec (.loadHeaderRead a) s = .next
          { s with load := some (.body (wordAt h 5)), port := [⟨[0x03, 0, 0, 64], 2118⟩], pins := reading }) ∧
        (¬ right → ∃ t, exec (.loadHeaderRead a) s = .next t ∧ defaulted t)) ∧
      (∀ a, (∀ sum, s.load ≠ some (.body sum)) → exec (.loadBodyRead a) s = .next s) ∧
      (∀ (a : MemAnswer) (b : List Byte) (sum : BitVec 16), s.load = some (.body sum) →
        (a = .stored ∧ b = Memory.readBytes s.flash 64 2118) ∨ (a = .bytes b ∧ b.length = 2118) →
        ((b.map BitVec.toNat).sum % 65536 = sum.toNat → ∃ t, exec (.loadBodyRead a) s = .next t ∧
          LoadEnds s t (tablesOfBody b) (fun p => min 4095 (calibrationOfBody b p).offset.toNat)
            (fun p => min 4095 (calibrationOfBody b p).centre.toNat) false) ∧
        ((b.map BitVec.toNat).sum % 65536 ≠ sum.toNat → ∃ t, exec (.loadBodyRead a) s = .next t ∧ defaulted t))

/-- The steps of a store. The erase is followed by page 1, page n by page n + 1 up to 34, page 34 by the header; each
step sends a write enable and its page program, with the snapshot's bytes padded with 00h, and then reads the status.
The header's end makes STORE-DONE pending for a present requester and the part state RUN. A step's busy limit ends the
store with STORE-FAILED and RUN, the image memory as it is. Without a store neither does anything (R163, R167, R168,
R173, R174). That the limit acts at any elapsed time (entry 5), that a page that is done stands in the image memory
(entry 11), and that the end gives up snapshot and requester (entry 19), are the model's choices. -/
def Obligations.StoreStepsWriteImage : Prop :=
  ∀ s : State, s.resetHeld = false →
    let body := s.snapshot
    let sum := (body.map BitVec.toNat).sum
    let program := fun (page : Nat) (data : List Byte) =>
      [Transaction.mk [0x06] 0,
        ⟨[0x02, 0, BitVec.ofNat 8 (64 * page / 256), BitVec.ofNat 8 (64 * page)] ++ data, 0⟩, ⟨[0x05], 1⟩]
    let pageData := fun n : Nat => (List.range 64).map fun k => body.getD (64 * (n - 1) + k) 0
    let header : List Byte :=
      [0x5A, 0xA7, 1, 0x08, 0x46, BitVec.ofNat 8 (sum / 256), BitVec.ofNat 8 sum] ++ List.replicate 57 0
    let ended := fun (k : Nat) (t : State) =>
      t = { s with
        partState := .run, store := none, snapshot := [], storeFor := none, port := [], flash := t.flash
        stations := t.stations } ∧
      ∀ st, t.station st =
        if s.storeFor = some st ∧ (s.station st).code ≠ .absent then
          { s.station st with attention := (s.station st).attention ||| BitVec.ofNat 14 (2 ^ k) } else s.station st
    (s.store = none → exec .storeStepDone s = .next s ∧ exec .storeBusyLimit s = .next s) ∧
      (∀ x, s.store = some x → ∃ t, exec .storeBusyLimit s = .next t ∧ ended 10 t ∧ t.flash = s.flash) ∧
      (∀ e, s.store = some ⟨.erase, e⟩ → ∃ t, exec .storeStepDone s = .next t ∧
        t = { s with store := some ⟨.page 1, 0⟩, port := program 1 (pageData 1) }) ∧
      (∀ n e, s.store = some ⟨.page n, e⟩ → body.length = 2118 → 1 ≤ n → n ≤ 34 → Memory.wf s.flash = true →
        ∃ t, exec .storeStepDone s = .next t ∧
          t = { s with
            store := some ⟨if n < 34 then .page (n + 1) else .header, 0⟩, flash := t.flash
            port := if n < 34 then program (n + 1) (pageData (n + 1)) else program 0 header } ∧
          ∀ a, Memory.read t.flash a =
            if 64 * n ≤ a ∧ a < 64 * n + 64 then body.getD (a - 64) 0 else Memory.read s.flash a) ∧
      (∀ e, s.store = some ⟨.header, e⟩ → Memory.wf s.flash = true →
        ∃ t, exec .storeStepDone s = .next t ∧ ended 9 t ∧
          Memory.readBytes t.flash 0 5 = [0x5A, 0xA7, 1, 0x08, 0x46] ∧
          (wordAt (Memory.readBytes t.flash 0 64) 5).toNat = (body.map BitVec.toNat).sum % 65536 ∧
          ∀ a, 64 ≤ a → Memory.read t.flash a = Memory.read s.flash a)

/-! ### What every step keeps -/

/-- The free list and the start-order list hold each of the 32 voices exactly once, the FREE ones and the others, after
every step (R87, R88). -/
def Obligations.StepKeepsPoolPartition : Prop :=
  ∀ s t : State, PoolInv s → step s = .next t → PoolInv t

/-- Note records and ACTIVE voices name each other, timers run only where they may, and no voice sounds without a
renderer or during a load, after every step from a safe state (R56, R61, R66, R77, R86, R98, R99, R106, R107). -/
def Obligations.StepKeepsNotesAndTimers : Prop :=
  ∀ s t : State, s.Safe → step s = .next t → NoteInv t ∧ TimerInv t ∧ IdlePoolInv t

/-- A player is DISABLED exactly while its enabled setting is off, loads and stores run in their part states, the
memory is selected exactly during a header or body read, and a part held by RESET stands at its restart values, after
every step (R84, R155, R169, R175, R179). That the memory shows as selected during those reads alone, status reads and
store commands being over within their command, is the model's choice (entry 22). That the settings are off during a
load is the model's reading (entry 23). -/
def Obligations.StepKeepsPartState : Prop :=
  ∀ s t : State, PartInv s → NoteInv s → step s = .next t → PartInv t ∧ (HeldInv s → HeldInv t)

/-- An ABSENT station has an empty queue, nothing in flight and no edit request, and the holder of the grant is present
and asks for it, after every step (R127, R139, R158 to R160). -/
def Obligations.StepKeepsAbsentStationsEmpty : Prop :=
  ∀ s t : State, AbsentInv s → GrantInv s → step s = .next t → AbsentInv t ∧ GrantInv t

/-- The waiting entries of each use of a voice keep one of the shapes of R120 after every step from a safe state (R97,
R116 to R120). -/
def Obligations.StepKeepsQueueShapes : Prop :=
  ∀ s t : State, s.Safe → step s = .next t → QueueInv t

/-- Tables, settings, the players' and the voices' values stay in their ranges after every step (R6, R20, R32, R34, R36,
R38, R40, R42, R48, R99, R151, R171). -/
def Obligations.StepKeepsRanges : Prop :=
  ∀ s t : State, RangeInv s → step s = .next t → RangeInv t

/-- The link's counts, buffers and counters stay in their ranges and the image memory in its canonical form after every
step (R133, R144, R148, R160, R166). Every waiting list, the renderer's included, stays at 160 entries or fewer after
every step from a safe state whose renderer queue is as R129 has it (R111, R125, R129). -/
def Obligations.StepKeepsLinkAndMemory : Prop :=
  (∀ s t : State, LinkInv s → FlashInv s → step s = .next t → LinkInv t ∧ FlashInv t) ∧
    ∀ s t : State, s.Safe → RendererInv s → (∀ st, (s.station st).waiting.length ≤ 160) → step s = .next t →
      ∀ st, (t.station st).waiting.length ≤ 160

/-- The state after reset stands at the restart values, the tables and settings at the defaults of R172 with both
players off, and every promise holds of it. That it is the state after a POWER-ON restart and that the image memory is
erased is the model's choice (entry 10), and so is the count of uses at 0 (entry 14). -/
def Obligations.ResetIsSafe : Prop :=
  AtRestartValues State.reset ∧ State.reset.Safe ∧ State.reset.load = some (.busyWait 0) ∧
    State.reset.cause = .powerOn ∧ ∀ a, Memory.read State.reset.flash a = 0xFF

/-- The renderer's queue holds for each voice at most a CUT of an earlier use before the entries of its newest use, in a
shape of R120: every step from a safe state keeps that, reset meets it, and it bounds the queue by three waiting entries
for one voice and by 96 in all (R120, R129). That uses of a voice are told apart where generations wrap is the model's
reading (entries 14 and 29). -/
def Obligations.RendererQueueIsBounded : Prop :=
  (∀ s t : State, s.Safe → RendererInv s → step s = .next t → RendererInv t) ∧
    RendererInv State.reset ∧
    ∀ s : State, s.Safe → RendererInv s →
      let w := (s.station s.tables.renderer).waiting
      (∀ v : VoiceNo, (w.filter fun e => match e with | .voice i _ _ _ => decide (i.voice = v) | .sync => false).length ≤ 3) ∧
        w.length ≤ 96
end

