-- ==== Sys2Proof/Laws/State.lean ====
section
/-!
SUPPORT. Small lemmas of the plain types and of the state's updates: reading a table or pair after a write, and one
lemma per field per update, so that no later proof unfolds a record update.
-/
namespace Sys2Proof

/-! ### Pairs and tables -/

variable {α β : Type} {n : Nat}

@[simp] theorem Pair.get_both (a : α) (p : Player) : (Pair.both a).get p = a := by cases p <;> rfl

@[simp] theorem Pair.get_set_same (x : Pair α) (p : Player) (a : α) : (x.set p a).get p = a := by cases p <;> rfl

theorem Pair.get_set_ne (x : Pair α) {p q : Player} (a : α) (h : q ≠ p) : (x.set p a).get q = x.get q := by
  cases p <;> cases q <;> first | rfl | exact absurd rfl h

/-- Reading a pair after a write, either way. -/
theorem Pair.get_set (x : Pair α) (p q : Player) (a : α) : (x.set p a).get q = if q = p then a else x.get q := by
  cases p <;> cases q <;> rfl

theorem Pair.ext_get {x y : Pair α} (h : ∀ p, x.get p = y.get p) : x = y := by
  cases x; cases y; simpa [Pair.get] using And.intro (h .p1) (h .p2)

theorem Tab.ext_get {x y : Tab α n} (h : ∀ i, x.get i = y.get i) : x = y := by
  obtain ⟨l, hl⟩ := x
  obtain ⟨m, hm⟩ := y
  have e : l = m := by
    refine List.ext_getElem (by rw [hl, hm]) fun i h1 h2 => ?_
    exact h ⟨i, by omega⟩
  subst e
  rfl

@[simp] theorem Tab.get_const (a : α) (i : Fin n) : (Tab.const n a).get i = a := by simp [Tab.get, Tab.const]

@[simp] theorem Tab.get_ofFn (f : Fin n → α) (i : Fin n) : (Tab.ofFn f).get i = f i := by simp [Tab.get, Tab.ofFn]

@[simp] theorem Tab.get_map (f : α → β) (t : Tab α n) (i : Fin n) : (t.map f).get i = f (t.get i) := by
  simp [Tab.get, Tab.map]

/-- Reading a table after a write, either way. -/
theorem Tab.get_set (t : Tab α n) (i j : Fin n) (a : α) : (t.set i a).get j = if j = i then a else t.get j := by
  simp [Tab.get, Tab.set, List.getElem_set, Fin.ext_iff, eq_comm]

@[simp] theorem Tab.get_set_same (t : Tab α n) (i : Fin n) (a : α) : (t.set i a).get i = a := by simp [Tab.get_set]

theorem Tab.get_set_ne (t : Tab α n) {i j : Fin n} (a : α) (h : j ≠ i) : (t.set i a).get j = t.get j := by
  simp [Tab.get_set, h]

/-- A table is the list of what stands at its places. -/
theorem Tab.mem_list {t : Tab α n} {a : α} : a ∈ t.list ↔ ∃ i, t.get i = a := by
  constructor
  · intro h
    obtain ⟨k, hk, e⟩ := List.getElem_of_mem h
    exact ⟨⟨k, by rw [← t.len]; exact hk⟩, e⟩
  · rintro ⟨i, rfl⟩
    exact List.getElem_mem _

@[simp] theorem mem_upTo (i : Fin n) : i ∈ upTo n := by simp [upTo]

end Sys2Proof

namespace Sys2Proof.Machine

open Sys2Proof

variable (s : State)

/-! ### `State.modPlayer` -/

@[simp] theorem State.modPlayer_pending (p : Player) (f : PlayerState → PlayerState) : (s.modPlayer p f).pending = s.pending := rfl

@[simp] theorem State.modPlayer_sweep (p : Player) (f : PlayerState → PlayerState) : (s.modPlayer p f).sweep = s.sweep := rfl

@[simp] theorem State.modPlayer_scan (p : Player) (f : PlayerState → PlayerState) : (s.modPlayer p f).scan = s.scan := rfl

@[simp] theorem State.modPlayer_voices (p : Player) (f : PlayerState → PlayerState) : (s.modPlayer p f).voices = s.voices := rfl

@[simp] theorem State.modPlayer_freeList (p : Player) (f : PlayerState → PlayerState) : (s.modPlayer p f).freeList = s.freeList := rfl

@[simp] theorem State.modPlayer_startOrder (p : Player) (f : PlayerState → PlayerState) : (s.modPlayer p f).startOrder = s.startOrder := rfl

@[simp] theorem State.modPlayer_tables (p : Player) (f : PlayerState → PlayerState) : (s.modPlayer p f).tables = s.tables := rfl

@[simp] theorem State.modPlayer_stations (p : Player) (f : PlayerState → PlayerState) : (s.modPlayer p f).stations = s.stations := rfl

@[simp] theorem State.modPlayer_grant (p : Player) (f : PlayerState → PlayerState) : (s.modPlayer p f).grant = s.grant := rfl

@[simp] theorem State.modPlayer_counters (p : Player) (f : PlayerState → PlayerState) : (s.modPlayer p f).counters = s.counters := rfl

@[simp] theorem State.modPlayer_partState (p : Player) (f : PlayerState → PlayerState) : (s.modPlayer p f).partState = s.partState := rfl

@[simp] theorem State.modPlayer_cause (p : Player) (f : PlayerState → PlayerState) : (s.modPlayer p f).cause = s.cause := rfl

@[simp] theorem State.modPlayer_load (p : Player) (f : PlayerState → PlayerState) : (s.modPlayer p f).load = s.load := rfl

@[simp] theorem State.modPlayer_store (p : Player) (f : PlayerState → PlayerState) : (s.modPlayer p f).store = s.store := rfl

@[simp] theorem State.modPlayer_snapshot (p : Player) (f : PlayerState → PlayerState) : (s.modPlayer p f).snapshot = s.snapshot := rfl

@[simp] theorem State.modPlayer_storeFor (p : Player) (f : PlayerState → PlayerState) : (s.modPlayer p f).storeFor = s.storeFor := rfl

@[simp] theorem State.modPlayer_flash (p : Player) (f : PlayerState → PlayerState) : (s.modPlayer p f).flash = s.flash := rfl

@[simp] theorem State.modPlayer_port (p : Player) (f : PlayerState → PlayerState) : (s.modPlayer p f).port = s.port := rfl

@[simp] theorem State.modPlayer_pins (p : Player) (f : PlayerState → PlayerState) : (s.modPlayer p f).pins = s.pins := rfl

@[simp] theorem State.modPlayer_bitTime (p : Player) (f : PlayerState → PlayerState) : (s.modPlayer p f).bitTime = s.bitTime := rfl

@[simp] theorem State.modPlayer_resetHeld (p : Player) (f : PlayerState → PlayerState) : (s.modPlayer p f).resetHeld = s.resetHeld := rfl

@[simp] theorem State.modPlayer_heldFromPowerUp (p : Player) (f : PlayerState → PlayerState) : (s.modPlayer p f).heldFromPowerUp = s.heldFromPowerUp := rfl

/-! ### `State.modVoice` -/

@[simp] theorem State.modVoice_pending (v : VoiceNo) (f : Voice → Voice) : (s.modVoice v f).pending = s.pending := rfl

@[simp] theorem State.modVoice_players (v : VoiceNo) (f : Voice → Voice) : (s.modVoice v f).players = s.players := rfl

@[simp] theorem State.modVoice_sweep (v : VoiceNo) (f : Voice → Voice) : (s.modVoice v f).sweep = s.sweep := rfl

@[simp] theorem State.modVoice_scan (v : VoiceNo) (f : Voice → Voice) : (s.modVoice v f).scan = s.scan := rfl

@[simp] theorem State.modVoice_freeList (v : VoiceNo) (f : Voice → Voice) : (s.modVoice v f).freeList = s.freeList := rfl

@[simp] theorem State.modVoice_startOrder (v : VoiceNo) (f : Voice → Voice) : (s.modVoice v f).startOrder = s.startOrder := rfl

@[simp] theorem State.modVoice_tables (v : VoiceNo) (f : Voice → Voice) : (s.modVoice v f).tables = s.tables := rfl

@[simp] theorem State.modVoice_stations (v : VoiceNo) (f : Voice → Voice) : (s.modVoice v f).stations = s.stations := rfl

@[simp] theorem State.modVoice_grant (v : VoiceNo) (f : Voice → Voice) : (s.modVoice v f).grant = s.grant := rfl

@[simp] theorem State.modVoice_counters (v : VoiceNo) (f : Voice → Voice) : (s.modVoice v f).counters = s.counters := rfl

@[simp] theorem State.modVoice_partState (v : VoiceNo) (f : Voice → Voice) : (s.modVoice v f).partState = s.partState := rfl

@[simp] theorem State.modVoice_cause (v : VoiceNo) (f : Voice → Voice) : (s.modVoice v f).cause = s.cause := rfl

@[simp] theorem State.modVoice_load (v : VoiceNo) (f : Voice → Voice) : (s.modVoice v f).load = s.load := rfl

@[simp] theorem State.modVoice_store (v : VoiceNo) (f : Voice → Voice) : (s.modVoice v f).store = s.store := rfl

@[simp] theorem State.modVoice_snapshot (v : VoiceNo) (f : Voice → Voice) : (s.modVoice v f).snapshot = s.snapshot := rfl

@[simp] theorem State.modVoice_storeFor (v : VoiceNo) (f : Voice → Voice) : (s.modVoice v f).storeFor = s.storeFor := rfl

@[simp] theorem State.modVoice_flash (v : VoiceNo) (f : Voice → Voice) : (s.modVoice v f).flash = s.flash := rfl

@[simp] theorem State.modVoice_port (v : VoiceNo) (f : Voice → Voice) : (s.modVoice v f).port = s.port := rfl

@[simp] theorem State.modVoice_pins (v : VoiceNo) (f : Voice → Voice) : (s.modVoice v f).pins = s.pins := rfl

@[simp] theorem State.modVoice_bitTime (v : VoiceNo) (f : Voice → Voice) : (s.modVoice v f).bitTime = s.bitTime := rfl

@[simp] theorem State.modVoice_resetHeld (v : VoiceNo) (f : Voice → Voice) : (s.modVoice v f).resetHeld = s.resetHeld := rfl

@[simp] theorem State.modVoice_heldFromPowerUp (v : VoiceNo) (f : Voice → Voice) : (s.modVoice v f).heldFromPowerUp = s.heldFromPowerUp := rfl

/-! ### `State.modStation` -/

@[simp] theorem State.modStation_pending (st : Station) (f : StationState → StationState) : (s.modStation st f).pending = s.pending := rfl

@[simp] theorem State.modStation_players (st : Station) (f : StationState → StationState) : (s.modStation st f).players = s.players := rfl

@[simp] theorem State.modStation_sweep (st : Station) (f : StationState → StationState) : (s.modStation st f).sweep = s.sweep := rfl

@[simp] theorem State.modStation_scan (st : Station) (f : StationState → StationState) : (s.modStation st f).scan = s.scan := rfl

@[simp] theorem State.modStation_voices (st : Station) (f : StationState → StationState) : (s.modStation st f).voices = s.voices := rfl

@[simp] theorem State.modStation_freeList (st : Station) (f : StationState → StationState) : (s.modStation st f).freeList = s.freeList := rfl

@[simp] theorem State.modStation_startOrder (st : Station) (f : StationState → StationState) : (s.modStation st f).startOrder = s.startOrder := rfl

@[simp] theorem State.modStation_tables (st : Station) (f : StationState → StationState) : (s.modStation st f).tables = s.tables := rfl

@[simp] theorem State.modStation_grant (st : Station) (f : StationState → StationState) : (s.modStation st f).grant = s.grant := rfl

@[simp] theorem State.modStation_counters (st : Station) (f : StationState → StationState) : (s.modStation st f).counters = s.counters := rfl

@[simp] theorem State.modStation_partState (st : Station) (f : StationState → StationState) : (s.modStation st f).partState = s.partState := rfl

@[simp] theorem State.modStation_cause (st : Station) (f : StationState → StationState) : (s.modStation st f).cause = s.cause := rfl

@[simp] theorem State.modStation_load (st : Station) (f : StationState → StationState) : (s.modStation st f).load = s.load := rfl

@[simp] theorem State.modStation_store (st : Station) (f : StationState → StationState) : (s.modStation st f).store = s.store := rfl

@[simp] theorem State.modStation_snapshot (st : Station) (f : StationState → StationState) : (s.modStation st f).snapshot = s.snapshot := rfl

@[simp] theorem State.modStation_storeFor (st : Station) (f : StationState → StationState) : (s.modStation st f).storeFor = s.storeFor := rfl

@[simp] theorem State.modStation_flash (st : Station) (f : StationState → StationState) : (s.modStation st f).flash = s.flash := rfl

@[simp] theorem State.modStation_port (st : Station) (f : StationState → StationState) : (s.modStation st f).port = s.port := rfl

@[simp] theorem State.modStation_pins (st : Station) (f : StationState → StationState) : (s.modStation st f).pins = s.pins := rfl

@[simp] theorem State.modStation_bitTime (st : Station) (f : StationState → StationState) : (s.modStation st f).bitTime = s.bitTime := rfl

@[simp] theorem State.modStation_resetHeld (st : Station) (f : StationState → StationState) : (s.modStation st f).resetHeld = s.resetHeld := rfl

@[simp] theorem State.modStation_heldFromPowerUp (st : Station) (f : StationState → StationState) : (s.modStation st f).heldFromPowerUp = s.heldFromPowerUp := rfl

/-! ### `State.modTables` -/

@[simp] theorem State.modTables_pending (f : Tables → Tables) : (s.modTables f).pending = s.pending := rfl

@[simp] theorem State.modTables_players (f : Tables → Tables) : (s.modTables f).players = s.players := rfl

@[simp] theorem State.modTables_sweep (f : Tables → Tables) : (s.modTables f).sweep = s.sweep := rfl

@[simp] theorem State.modTables_scan (f : Tables → Tables) : (s.modTables f).scan = s.scan := rfl

@[simp] theorem State.modTables_voices (f : Tables → Tables) : (s.modTables f).voices = s.voices := rfl

@[simp] theorem State.modTables_freeList (f : Tables → Tables) : (s.modTables f).freeList = s.freeList := rfl

@[simp] theorem State.modTables_startOrder (f : Tables → Tables) : (s.modTables f).startOrder = s.startOrder := rfl

@[simp] theorem State.modTables_stations (f : Tables → Tables) : (s.modTables f).stations = s.stations := rfl

@[simp] theorem State.modTables_grant (f : Tables → Tables) : (s.modTables f).grant = s.grant := rfl

@[simp] theorem State.modTables_counters (f : Tables → Tables) : (s.modTables f).counters = s.counters := rfl

@[simp] theorem State.modTables_partState (f : Tables → Tables) : (s.modTables f).partState = s.partState := rfl

@[simp] theorem State.modTables_cause (f : Tables → Tables) : (s.modTables f).cause = s.cause := rfl

@[simp] theorem State.modTables_load (f : Tables → Tables) : (s.modTables f).load = s.load := rfl

@[simp] theorem State.modTables_store (f : Tables → Tables) : (s.modTables f).store = s.store := rfl

@[simp] theorem State.modTables_snapshot (f : Tables → Tables) : (s.modTables f).snapshot = s.snapshot := rfl

@[simp] theorem State.modTables_storeFor (f : Tables → Tables) : (s.modTables f).storeFor = s.storeFor := rfl

@[simp] theorem State.modTables_flash (f : Tables → Tables) : (s.modTables f).flash = s.flash := rfl

@[simp] theorem State.modTables_port (f : Tables → Tables) : (s.modTables f).port = s.port := rfl

@[simp] theorem State.modTables_pins (f : Tables → Tables) : (s.modTables f).pins = s.pins := rfl

@[simp] theorem State.modTables_bitTime (f : Tables → Tables) : (s.modTables f).bitTime = s.bitTime := rfl

@[simp] theorem State.modTables_resetHeld (f : Tables → Tables) : (s.modTables f).resetHeld = s.resetHeld := rfl

@[simp] theorem State.modTables_heldFromPowerUp (f : Tables → Tables) : (s.modTables f).heldFromPowerUp = s.heldFromPowerUp := rfl

/-! ### `State.modCounters` -/

@[simp] theorem State.modCounters_pending (f : Counters → Counters) : (s.modCounters f).pending = s.pending := rfl

@[simp] theorem State.modCounters_players (f : Counters → Counters) : (s.modCounters f).players = s.players := rfl

@[simp] theorem State.modCounters_sweep (f : Counters → Counters) : (s.modCounters f).sweep = s.sweep := rfl

@[simp] theorem State.modCounters_scan (f : Counters → Counters) : (s.modCounters f).scan = s.scan := rfl

@[simp] theorem State.modCounters_voices (f : Counters → Counters) : (s.modCounters f).voices = s.voices := rfl

@[simp] theorem State.modCounters_freeList (f : Counters → Counters) : (s.modCounters f).freeList = s.freeList := rfl

@[simp] theorem State.modCounters_startOrder (f : Counters → Counters) : (s.modCounters f).startOrder = s.startOrder := rfl

@[simp] theorem State.modCounters_tables (f : Counters → Counters) : (s.modCounters f).tables = s.tables := rfl

@[simp] theorem State.modCounters_stations (f : Counters → Counters) : (s.modCounters f).stations = s.stations := rfl

@[simp] theorem State.modCounters_grant (f : Counters → Counters) : (s.modCounters f).grant = s.grant := rfl

@[simp] theorem State.modCounters_partState (f : Counters → Counters) : (s.modCounters f).partState = s.partState := rfl

@[simp] theorem State.modCounters_cause (f : Counters → Counters) : (s.modCounters f).cause = s.cause := rfl

@[simp] theorem State.modCounters_load (f : Counters → Counters) : (s.modCounters f).load = s.load := rfl

@[simp] theorem State.modCounters_store (f : Counters → Counters) : (s.modCounters f).store = s.store := rfl

@[simp] theorem State.modCounters_snapshot (f : Counters → Counters) : (s.modCounters f).snapshot = s.snapshot := rfl

@[simp] theorem State.modCounters_storeFor (f : Counters → Counters) : (s.modCounters f).storeFor = s.storeFor := rfl

@[simp] theorem State.modCounters_flash (f : Counters → Counters) : (s.modCounters f).flash = s.flash := rfl

@[simp] theorem State.modCounters_port (f : Counters → Counters) : (s.modCounters f).port = s.port := rfl

@[simp] theorem State.modCounters_pins (f : Counters → Counters) : (s.modCounters f).pins = s.pins := rfl

@[simp] theorem State.modCounters_bitTime (f : Counters → Counters) : (s.modCounters f).bitTime = s.bitTime := rfl

@[simp] theorem State.modCounters_resetHeld (f : Counters → Counters) : (s.modCounters f).resetHeld = s.resetHeld := rfl

@[simp] theorem State.modCounters_heldFromPowerUp (f : Counters → Counters) : (s.modCounters f).heldFromPowerUp = s.heldFromPowerUp := rfl

/-! ### `setWaiting` -/

@[simp] theorem setWaiting_pending (st : Station) (w : List Entry) : (setWaiting st w s).pending = s.pending := rfl

@[simp] theorem setWaiting_players (st : Station) (w : List Entry) : (setWaiting st w s).players = s.players := rfl

@[simp] theorem setWaiting_sweep (st : Station) (w : List Entry) : (setWaiting st w s).sweep = s.sweep := rfl

@[simp] theorem setWaiting_scan (st : Station) (w : List Entry) : (setWaiting st w s).scan = s.scan := rfl

@[simp] theorem setWaiting_voices (st : Station) (w : List Entry) : (setWaiting st w s).voices = s.voices := rfl

@[simp] theorem setWaiting_freeList (st : Station) (w : List Entry) : (setWaiting st w s).freeList = s.freeList := rfl

@[simp] theorem setWaiting_startOrder (st : Station) (w : List Entry) : (setWaiting st w s).startOrder = s.startOrder := rfl

@[simp] theorem setWaiting_tables (st : Station) (w : List Entry) : (setWaiting st w s).tables = s.tables := rfl

@[simp] theorem setWaiting_grant (st : Station) (w : List Entry) : (setWaiting st w s).grant = s.grant := rfl

@[simp] theorem setWaiting_counters (st : Station) (w : List Entry) : (setWaiting st w s).counters = s.counters := rfl

@[simp] theorem setWaiting_partState (st : Station) (w : List Entry) : (setWaiting st w s).partState = s.partState := rfl

@[simp] theorem setWaiting_cause (st : Station) (w : List Entry) : (setWaiting st w s).cause = s.cause := rfl

@[simp] theorem setWaiting_load (st : Station) (w : List Entry) : (setWaiting st w s).load = s.load := rfl

@[simp] theorem setWaiting_store (st : Station) (w : List Entry) : (setWaiting st w s).store = s.store := rfl

@[simp] theorem setWaiting_snapshot (st : Station) (w : List Entry) : (setWaiting st w s).snapshot = s.snapshot := rfl

@[simp] theorem setWaiting_storeFor (st : Station) (w : List Entry) : (setWaiting st w s).storeFor = s.storeFor := rfl

@[simp] theorem setWaiting_flash (st : Station) (w : List Entry) : (setWaiting st w s).flash = s.flash := rfl

@[simp] theorem setWaiting_port (st : Station) (w : List Entry) : (setWaiting st w s).port = s.port := rfl

@[simp] theorem setWaiting_pins (st : Station) (w : List Entry) : (setWaiting st w s).pins = s.pins := rfl

@[simp] theorem setWaiting_bitTime (st : Station) (w : List Entry) : (setWaiting st w s).bitTime = s.bitTime := rfl

@[simp] theorem setWaiting_resetHeld (st : Station) (w : List Entry) : (setWaiting st w s).resetHeld = s.resetHeld := rfl

@[simp] theorem setWaiting_heldFromPowerUp (st : Station) (w : List Entry) : (setWaiting st w s).heldFromPowerUp = s.heldFromPowerUp := rfl

/-! ### `setPending` -/

@[simp] theorem setPending_pending (k : Kind) (st : Station) : (setPending k st s).pending = s.pending := rfl

@[simp] theorem setPending_players (k : Kind) (st : Station) : (setPending k st s).players = s.players := rfl

@[simp] theorem setPending_sweep (k : Kind) (st : Station) : (setPending k st s).sweep = s.sweep := rfl

@[simp] theorem setPending_scan (k : Kind) (st : Station) : (setPending k st s).scan = s.scan := rfl

@[simp] theorem setPending_voices (k : Kind) (st : Station) : (setPending k st s).voices = s.voices := rfl

@[simp] theorem setPending_freeList (k : Kind) (st : Station) : (setPending k st s).freeList = s.freeList := rfl

@[simp] theorem setPending_startOrder (k : Kind) (st : Station) : (setPending k st s).startOrder = s.startOrder := rfl

@[simp] theorem setPending_tables (k : Kind) (st : Station) : (setPending k st s).tables = s.tables := rfl

@[simp] theorem setPending_grant (k : Kind) (st : Station) : (setPending k st s).grant = s.grant := rfl

@[simp] theorem setPending_counters (k : Kind) (st : Station) : (setPending k st s).counters = s.counters := rfl

@[simp] theorem setPending_partState (k : Kind) (st : Station) : (setPending k st s).partState = s.partState := rfl

@[simp] theorem setPending_cause (k : Kind) (st : Station) : (setPending k st s).cause = s.cause := rfl

@[simp] theorem setPending_load (k : Kind) (st : Station) : (setPending k st s).load = s.load := rfl

@[simp] theorem setPending_store (k : Kind) (st : Station) : (setPending k st s).store = s.store := rfl

@[simp] theorem setPending_snapshot (k : Kind) (st : Station) : (setPending k st s).snapshot = s.snapshot := rfl

@[simp] theorem setPending_storeFor (k : Kind) (st : Station) : (setPending k st s).storeFor = s.storeFor := rfl

@[simp] theorem setPending_flash (k : Kind) (st : Station) : (setPending k st s).flash = s.flash := rfl

@[simp] theorem setPending_port (k : Kind) (st : Station) : (setPending k st s).port = s.port := rfl

@[simp] theorem setPending_pins (k : Kind) (st : Station) : (setPending k st s).pins = s.pins := rfl

@[simp] theorem setPending_bitTime (k : Kind) (st : Station) : (setPending k st s).bitTime = s.bitTime := rfl

@[simp] theorem setPending_resetHeld (k : Kind) (st : Station) : (setPending k st s).resetHeld = s.resetHeld := rfl

@[simp] theorem setPending_heldFromPowerUp (k : Kind) (st : Station) : (setPending k st s).heldFromPowerUp = s.heldFromPowerUp := rfl

/-! ### `broadcast` -/

@[simp] theorem broadcast_pending (k : Kind) : (broadcast k s).pending = s.pending := rfl

@[simp] theorem broadcast_players (k : Kind) : (broadcast k s).players = s.players := rfl

@[simp] theorem broadcast_sweep (k : Kind) : (broadcast k s).sweep = s.sweep := rfl

@[simp] theorem broadcast_scan (k : Kind) : (broadcast k s).scan = s.scan := rfl

@[simp] theorem broadcast_voices (k : Kind) : (broadcast k s).voices = s.voices := rfl

@[simp] theorem broadcast_freeList (k : Kind) : (broadcast k s).freeList = s.freeList := rfl

@[simp] theorem broadcast_startOrder (k : Kind) : (broadcast k s).startOrder = s.startOrder := rfl

@[simp] theorem broadcast_tables (k : Kind) : (broadcast k s).tables = s.tables := rfl

@[simp] theorem broadcast_grant (k : Kind) : (broadcast k s).grant = s.grant := rfl

@[simp] theorem broadcast_counters (k : Kind) : (broadcast k s).counters = s.counters := rfl

@[simp] theorem broadcast_partState (k : Kind) : (broadcast k s).partState = s.partState := rfl

@[simp] theorem broadcast_cause (k : Kind) : (broadcast k s).cause = s.cause := rfl

@[simp] theorem broadcast_load (k : Kind) : (broadcast k s).load = s.load := rfl

@[simp] theorem broadcast_store (k : Kind) : (broadcast k s).store = s.store := rfl

@[simp] theorem broadcast_snapshot (k : Kind) : (broadcast k s).snapshot = s.snapshot := rfl

@[simp] theorem broadcast_storeFor (k : Kind) : (broadcast k s).storeFor = s.storeFor := rfl

@[simp] theorem broadcast_flash (k : Kind) : (broadcast k s).flash = s.flash := rfl

@[simp] theorem broadcast_port (k : Kind) : (broadcast k s).port = s.port := rfl

@[simp] theorem broadcast_pins (k : Kind) : (broadcast k s).pins = s.pins := rfl

@[simp] theorem broadcast_bitTime (k : Kind) : (broadcast k s).bitTime = s.bitTime := rfl

@[simp] theorem broadcast_resetHeld (k : Kind) : (broadcast k s).resetHeld = s.resetHeld := rfl

@[simp] theorem broadcast_heldFromPowerUp (k : Kind) : (broadcast k s).heldFromPowerUp = s.heldFromPowerUp := rfl

/-! ### `notify` -/

@[simp] theorem notify_pending (k : Kind) (r : Option Station) : (notify k r s).pending = s.pending := by
  cases r with
  | none => rfl
  | some st => by_cases h : s.present st <;> simp [notify, h]

@[simp] theorem notify_players (k : Kind) (r : Option Station) : (notify k r s).players = s.players := by
  cases r with
  | none => rfl
  | some st => by_cases h : s.present st <;> simp [notify, h]

@[simp] theorem notify_sweep (k : Kind) (r : Option Station) : (notify k r s).sweep = s.sweep := by
  cases r with
  | none => rfl
  | some st => by_cases h : s.present st <;> simp [notify, h]

@[simp] theorem notify_scan (k : Kind) (r : Option Station) : (notify k r s).scan = s.scan := by
  cases r with
  | none => rfl
  | some st => by_cases h : s.present st <;> simp [notify, h]

@[simp] theorem notify_voices (k : Kind) (r : Option Station) : (notify k r s).voices = s.voices := by
  cases r with
  | none => rfl
  | some st => by_cases h : s.present st <;> simp [notify, h]

@[simp] theorem notify_freeList (k : Kind) (r : Option Station) : (notify k r s).freeList = s.freeList := by
  cases r with
  | none => rfl
  | some st => by_cases h : s.present st <;> simp [notify, h]

@[simp] theorem notify_startOrder (k : Kind) (r : Option Station) : (notify k r s).startOrder = s.startOrder := by
  cases r with
  | none => rfl
  | some st => by_cases h : s.present st <;> simp [notify, h]

@[simp] theorem notify_tables (k : Kind) (r : Option Station) : (notify k r s).tables = s.tables := by
  cases r with
  | none => rfl
  | some st => by_cases h : s.present st <;> simp [notify, h]

@[simp] theorem notify_grant (k : Kind) (r : Option Station) : (notify k r s).grant = s.grant := by
  cases r with
  | none => rfl
  | some st => by_cases h : s.present st <;> simp [notify, h]

@[simp] theorem notify_counters (k : Kind) (r : Option Station) : (notify k r s).counters = s.counters := by
  cases r with
  | none => rfl
  | some st => by_cases h : s.present st <;> simp [notify, h]

@[simp] theorem notify_partState (k : Kind) (r : Option Station) : (notify k r s).partState = s.partState := by
  cases r with
  | none => rfl
  | some st => by_cases h : s.present st <;> simp [notify, h]

@[simp] theorem notify_cause (k : Kind) (r : Option Station) : (notify k r s).cause = s.cause := by
  cases r with
  | none => rfl
  | some st => by_cases h : s.present st <;> simp [notify, h]

@[simp] theorem notify_load (k : Kind) (r : Option Station) : (notify k r s).load = s.load := by
  cases r with
  | none => rfl
  | some st => by_cases h : s.present st <;> simp [notify, h]

@[simp] theorem notify_store (k : Kind) (r : Option Station) : (notify k r s).store = s.store := by
  cases r with
  | none => rfl
  | some st => by_cases h : s.present st <;> simp [notify, h]

@[simp] theorem notify_snapshot (k : Kind) (r : Option Station) : (notify k r s).snapshot = s.snapshot := by
  cases r with
  | none => rfl
  | some st => by_cases h : s.present st <;> simp [notify, h]

@[simp] theorem notify_storeFor (k : Kind) (r : Option Station) : (notify k r s).storeFor = s.storeFor := by
  cases r with
  | none => rfl
  | some st => by_cases h : s.present st <;> simp [notify, h]

@[simp] theorem notify_flash (k : Kind) (r : Option Station) : (notify k r s).flash = s.flash := by
  cases r with
  | none => rfl
  | some st => by_cases h : s.present st <;> simp [notify, h]

@[simp] theorem notify_port (k : Kind) (r : Option Station) : (notify k r s).port = s.port := by
  cases r with
  | none => rfl
  | some st => by_cases h : s.present st <;> simp [notify, h]

@[simp] theorem notify_pins (k : Kind) (r : Option Station) : (notify k r s).pins = s.pins := by
  cases r with
  | none => rfl
  | some st => by_cases h : s.present st <;> simp [notify, h]

@[simp] theorem notify_bitTime (k : Kind) (r : Option Station) : (notify k r s).bitTime = s.bitTime := by
  cases r with
  | none => rfl
  | some st => by_cases h : s.present st <;> simp [notify, h]

@[simp] theorem notify_resetHeld (k : Kind) (r : Option Station) : (notify k r s).resetHeld = s.resetHeld := by
  cases r with
  | none => rfl
  | some st => by_cases h : s.present st <;> simp [notify, h]

@[simp] theorem notify_heldFromPowerUp (k : Kind) (r : Option Station) : (notify k r s).heldFromPowerUp = s.heldFromPowerUp := by
  cases r with
  | none => rfl
  | some st => by_cases h : s.present st <;> simp [notify, h]

/-! ### Accessors after updates -/

variable (p q : Player) (v u : VoiceNo) (st x : Station)

@[simp] theorem State.tables_modTables (f : Tables → Tables) : (s.modTables f).tables = f s.tables := rfl

@[simp] theorem State.counters_modCounters (f : Counters → Counters) : (s.modCounters f).counters = f s.counters := rfl

theorem State.player_modPlayer (f : PlayerState → PlayerState) :
    (s.modPlayer p f).player q = if q = p then f (s.player p) else s.player q := by
  simp [State.player, State.modPlayer, Pair.get_set]

@[simp] theorem State.player_modPlayer_same (f : PlayerState → PlayerState) :
    (s.modPlayer p f).player p = f (s.player p) := by simp [State.player_modPlayer]

theorem State.voice_modVoice (f : Voice → Voice) :
    (s.modVoice v f).voice u = if u = v then f (s.voice v) else s.voice u := by
  simp [State.voice, State.modVoice, Tab.get_set]

@[simp] theorem State.voice_modVoice_same (f : Voice → Voice) : (s.modVoice v f).voice v = f (s.voice v) := by
  simp [State.voice_modVoice]

theorem State.station_modStation (f : StationState → StationState) :
    (s.modStation st f).station x = if x = st then f (s.station st) else s.station x := by
  simp [State.station, State.modStation, Tab.get_set]

@[simp] theorem State.station_modStation_same (f : StationState → StationState) :
    (s.modStation st f).station st = f (s.station st) := by simp [State.station_modStation]

@[simp] theorem station_broadcast (k : Kind) :
    (broadcast k s).station st =
      if (s.station st).code = .absent then s.station st else (s.station st).withPending k := by
  exact Tab.get_map _ _ _

@[simp] theorem State.voice_modPlayer (f : PlayerState → PlayerState) : (s.modPlayer p f).voice v = s.voice v := rfl

@[simp] theorem State.station_modPlayer (f : PlayerState → PlayerState) : (s.modPlayer p f).station st = s.station st := rfl

@[simp] theorem State.settings_modPlayer (f : PlayerState → PlayerState) : (s.modPlayer p f).settings q = s.settings q := rfl

@[simp] theorem State.player_modVoice (f : Voice → Voice) : (s.modVoice v f).player p = s.player p := rfl

@[simp] theorem State.station_modVoice (f : Voice → Voice) : (s.modVoice v f).station st = s.station st := rfl

@[simp] theorem State.settings_modVoice (f : Voice → Voice) : (s.modVoice v f).settings p = s.settings p := rfl

@[simp] theorem State.player_modStation (f : StationState → StationState) : (s.modStation st f).player p = s.player p := rfl

@[simp] theorem State.voice_modStation (f : StationState → StationState) : (s.modStation st f).voice v = s.voice v := rfl

@[simp] theorem State.settings_modStation (f : StationState → StationState) : (s.modStation st f).settings p = s.settings p := rfl

@[simp] theorem State.player_modTables (f : Tables → Tables) : (s.modTables f).player p = s.player p := rfl

@[simp] theorem State.voice_modTables (f : Tables → Tables) : (s.modTables f).voice v = s.voice v := rfl

@[simp] theorem State.station_modTables (f : Tables → Tables) : (s.modTables f).station st = s.station st := rfl

@[simp] theorem State.player_modCounters (f : Counters → Counters) : (s.modCounters f).player p = s.player p := rfl

@[simp] theorem State.voice_modCounters (f : Counters → Counters) : (s.modCounters f).voice v = s.voice v := rfl

@[simp] theorem State.station_modCounters (f : Counters → Counters) : (s.modCounters f).station st = s.station st := rfl

@[simp] theorem State.settings_modCounters (f : Counters → Counters) : (s.modCounters f).settings p = s.settings p := rfl

@[simp] theorem player_broadcast (k : Kind) : (broadcast k s).player p = s.player p := rfl

@[simp] theorem player_setWaiting (w : List Entry) : (setWaiting st w s).player p = s.player p := rfl

@[simp] theorem voice_broadcast (k : Kind) : (broadcast k s).voice v = s.voice v := rfl

@[simp] theorem voice_setWaiting (w : List Entry) : (setWaiting st w s).voice v = s.voice v := rfl

@[simp] theorem settings_broadcast (k : Kind) : (broadcast k s).settings p = s.settings p := rfl

@[simp] theorem settings_setWaiting (w : List Entry) : (setWaiting st w s).settings p = s.settings p := rfl

@[simp] theorem waiting_setWaiting (w : List Entry) : ((setWaiting st w s).station st).waiting = w := by
  simp [setWaiting]

end Sys2Proof.Machine
end

