-- ==== Sys2Proof/Laws/Bytes.lean ====
section
/-!
SUPPORT. Fields of two and three bytes, and the records built from them, come back from their bytes (R148).
-/
namespace Sys2Proof

@[simp] theorem length_twoBytes (w : BitVec 16) : (twoBytes w).length = 2 := rfl

@[simp] theorem length_threeBytes (w : BitVec 24) : (threeBytes w).length = 3 := rfl

/-- A 16-bit value is its two bytes, joined. -/
theorem bytes_join_two (w : BitVec 16) : w.extractLsb' 8 8 ++ w.extractLsb' 0 8 = w := by
  apply BitVec.eq_of_getLsbD_eq
  intro i hi
  simp only [BitVec.getLsbD_append, BitVec.getLsbD_extractLsb']
  by_cases h : i < 8
  · simp [h]
  · have e : 8 + (i - 8) = i := by omega
    have k : i - 8 < 8 := by omega
    simp [h, e, k]

/-- A 24-bit value is its three bytes, joined. -/
theorem bytes_join_three (w : BitVec 24) :
    w.extractLsb' 16 8 ++ w.extractLsb' 8 8 ++ w.extractLsb' 0 8 = w := by
  apply BitVec.eq_of_getLsbD_eq
  intro i hi
  simp only [BitVec.getLsbD_append, BitVec.getLsbD_extractLsb']
  by_cases h : i < 8
  · simp [h]
  · by_cases k : i - 8 < 8
    · have e : 8 + (i - 8) = i := by omega
      simp [h, k, e]
    · have e : 16 + (i - 8 - 8) = i := by omega
      have m : i - 8 - 8 < 8 := by omega
      simp [h, k, e, m]

/-- The two-byte field at the head of a byte list. -/
@[simp] theorem wordAt_twoBytes (w : BitVec 16) (l : List Byte) : wordAt (twoBytes w ++ l) 0 = w := bytes_join_two w

/-- The three-byte field at the head of a byte list. -/
@[simp] theorem threeAt_threeBytes (w : BitVec 24) (l : List Byte) : threeAt (threeBytes w ++ l) 0 = w :=
  bytes_join_three w

/-- An entry comes back from its bytes, whatever follows them. -/
theorem RawEntry.ofBytes_bytes (e : RawEntry) (l : List Byte) : RawEntry.ofBytes (e.bytes ++ l) = e := by
  obtain ⟨valid, chart, care, pattern, pitch⟩ := e
  have hc := bytes_join_three care
  have hp := bytes_join_three pattern
  simp [RawEntry.ofBytes, RawEntry.bytes, threeBytes, threeAt, byteAt, hc, hp]

/-- A layer comes back from its bytes, whatever follows them. -/
theorem RawLayer.ofBytes_bytes (y : RawLayer) (l : List Byte) : RawLayer.ofBytes (y.bytes ++ l) = y := by
  obtain ⟨present, interval, scale, curve, program, low, high⟩ := y
  have hs := bytes_join_two scale
  simp [RawLayer.ofBytes, RawLayer.bytes, twoBytes, wordAt, byteAt, hs]

/-- Settings come back from their bytes, whatever follows them. -/
theorem RawSettings.ofBytes_bytes (x : RawSettings) (l : List Byte) : RawSettings.ofBytes (x.bytes ++ l) = x := by
  obtain ⟨enabled, captureOnEnable, chart, layerSet, transpose, settleMs, gain, on, off, k, deadBand, mode, bendDepth,
    deadzone, drift, reserve⟩ := x
  have h1 := bytes_join_two gain
  have h2 := bytes_join_two on
  have h3 := bytes_join_two off
  have h4 := bytes_join_two deadzone
  simp [RawSettings.ofBytes, RawSettings.bytes, twoBytes, wordAt, byteAt, h1, h2, h3, h4]

/-- Calibration values come back from their bytes, whatever follows them. -/
theorem RawCalibration.ofBytes_bytes (c : RawCalibration) (l : List Byte) :
    RawCalibration.ofBytes (c.bytes ++ l) = c := by
  obtain ⟨offset, centre⟩ := c
  have h1 := bytes_join_two offset
  have h2 := bytes_join_two centre
  simp [RawCalibration.ofBytes, RawCalibration.bytes, twoBytes, wordAt, byteAt, h1, h2]

end Sys2Proof
end

