-- ==== Sys2Proof/Laws/Frames.lean ====
section
/-!
SUPPORT. What the shared operations leave alone: the work of the sensor converter, scanner, shaping unit, resolver,
articulation controller, voice pool and queues touches players, voices, the two lists, stations and counters only; and
what the passing of time moves.
-/
namespace Sys2Proof.Machine

open Sys2Proof

/-- `t` differs from `s` in players, voices, the two lists, stations and counters at most. -/
structure PoolWork (s t : State) : Prop where
  pending : t.pending = s.pending
  sweep : t.sweep = s.sweep
  scan : t.scan = s.scan
  tables : t.tables = s.tables
  grant : t.grant = s.grant
  partState : t.partState = s.partState
  cause : t.cause = s.cause
  load : t.load = s.load
  store : t.store = s.store
  snapshot : t.snapshot = s.snapshot
  storeFor : t.storeFor = s.storeFor
  flash : t.flash = s.flash
  port : t.port = s.port
  pins : t.pins = s.pins
  bitTime : t.bitTime = s.bitTime
  resetHeld : t.resetHeld = s.resetHeld
  heldFromPowerUp : t.heldFromPowerUp = s.heldFromPowerUp

theorem PoolWork.refl (s : State) : PoolWork s s := by constructor <;> rfl

theorem PoolWork.trans {s t u : State} (h : PoolWork s t) (k : PoolWork t u) : PoolWork s u where
  pending := k.pending.trans h.pending
  sweep := k.sweep.trans h.sweep
  scan := k.scan.trans h.scan
  tables := k.tables.trans h.tables
  grant := k.grant.trans h.grant
  partState := k.partState.trans h.partState
  cause := k.cause.trans h.cause
  load := k.load.trans h.load
  store := k.store.trans h.store
  snapshot := k.snapshot.trans h.snapshot
  storeFor := k.storeFor.trans h.storeFor
  flash := k.flash.trans h.flash
  port := k.port.trans h.port
  pins := k.pins.trans h.pins
  bitTime := k.bitTime.trans h.bitTime
  resetHeld := k.resetHeld.trans h.resetHeld
  heldFromPowerUp := k.heldFromPowerUp.trans h.heldFromPowerUp

/-- Doing pool work once for each member of a list is pool work. -/
theorem PoolWork.foldl {α : Type} {f : State → α → State} (h : ∀ t a, PoolWork t (f t a)) (l : List α) (s : State) :
    PoolWork s (l.foldl f s) := by
  induction l generalizing s with
  | nil => exact .refl s
  | cons a l ih => exact (h s a).trans (ih (f s a))

/-- A choice of two pieces of pool work is pool work. -/
theorem PoolWork.ite {c : Prop} [Decidable c] {s t u : State} (h : PoolWork s t) (k : PoolWork s u) :
    PoolWork s (if c then t else u) := by split <;> assumption

theorem modPlayer_poolWork (p : Player) (f : PlayerState → PlayerState) (s : State) : PoolWork s (s.modPlayer p f) := by
  constructor <;> rfl

theorem modVoice_poolWork (v : VoiceNo) (f : Voice → Voice) (s : State) : PoolWork s (s.modVoice v f) := by
  constructor <;> rfl

theorem modStation_poolWork (st : Station) (f : StationState → StationState) (s : State) :
    PoolWork s (s.modStation st f) := by constructor <;> rfl

theorem modCounters_poolWork (f : Counters → Counters) (s : State) : PoolWork s (s.modCounters f) := by
  constructor <;> rfl

theorem startOrder_poolWork (l : List VoiceNo) (s : State) : PoolWork s { s with startOrder := l } := by
  constructor <;> rfl

theorem freeList_poolWork (l : List VoiceNo) (s : State) : PoolWork s { s with freeList := l } := by
  constructor <;> rfl

theorem broadcast_poolWork (k : Kind) (s : State) : PoolWork s (broadcast k s) := by constructor <;> rfl

theorem setPending_poolWork (k : Kind) (st : Station) (s : State) : PoolWork s (setPending k st s) :=
  modStation_poolWork st _ s

theorem setWaiting_poolWork (st : Station) (w : List Entry) (s : State) : PoolWork s (setWaiting st w s) :=
  modStation_poolWork st _ s

theorem notify_poolWork (k : Kind) (r : Option Station) (s : State) : PoolWork s (notify k r s) := by
  cases r with
  | none => exact .refl s
  | some st => exact .ite (setPending_poolWork k st s) (.refl s)

/-! ### Queues -/

theorem overflowQueue_poolWork (st : Station) (s : State) : PoolWork s (overflowQueue st s) :=
  ((setWaiting_poolWork st _ s).trans (modCounters_poolWork _ _)).trans (setPending_poolWork _ _ _)

theorem appendEntry_poolWork (st : Station) (e : Entry) (s : State) : PoolWork s (appendEntry st e s) :=
  .ite (overflowQueue_poolWork st s) (setWaiting_poolWork st _ s)

theorem mergeEntry_poolWork (st : Station) (v : VoiceNo) (use : Nat) (kind : Entry → Bool) (f : Entry → Entry)
    (e : Entry) (s : State) : PoolWork s (mergeEntry st v use kind f e s) :=
  .ite (setWaiting_poolWork st _ s) (.ite (setWaiting_poolWork st _ s) (appendEntry_poolWork st e s))

theorem placeEvent_poolWork (st : Station) (v : VoiceNo) (gen : BitVec 4) (p : Player) (use : Nat) (ev : Event)
    (s : State) : PoolWork s (placeEvent st v gen p use ev s) := by
  cases ev with
  | start => exact appendEntry_poolWork st _ s
  | pitch => exact mergeEntry_poolWork ..
  | level => exact mergeEntry_poolWork ..
  | release => exact appendEntry_poolWork st _ s
  | cut => exact .ite (setWaiting_poolWork st _ s) ((setWaiting_poolWork st _ s).trans (appendEntry_poolWork st _ _))

theorem issue_poolWork (v : VoiceNo) (ev : Event) (s : State) : PoolWork s (issue v ev s) :=
  .foldl (fun t st => .ite (placeEvent_poolWork st v _ _ _ ev t) (.refl t)) _ s

theorem flushQueue_poolWork (st : Station) (s : State) : PoolWork s (flushQueue st s) := modStation_poolWork st _ s

/-! ### Shaping and the voices of a note -/

theorem forEachSlot_poolWork (p : Player) {f : VoiceNo → State → State} (h : ∀ v t, PoolWork t (f v t)) (s : State) :
    PoolWork s (forEachSlot p f s) := by
  refine .foldl (fun t L => ?_) _ s
  split
  · exact h _ t
  · exact .refl t

theorem reportLevel_poolWork (v : VoiceNo) (deadBand : Nat) (s : State) : PoolWork s (reportLevel v deadBand s) :=
  .ite ((modVoice_poolWork v _ s).trans (issue_poolWork v _ _)) (.refl s)

theorem shapeVoices_poolWork (p : Player) (s : State) : PoolWork s (shapeVoices p s) :=
  forEachSlot_poolWork p (fun v t => (modVoice_poolWork v _ t).trans (reportLevel_poolWork v _ _)) s

theorem reportBend_poolWork (p : Player) (s : State) : PoolWork s (reportBend p s) :=
  .ite ((forEachSlot_poolWork p (fun v t => (modVoice_poolWork v _ t).trans (issue_poolWork v _ _)) s).trans
    (modPlayer_poolWork p _ _)) (.refl s)

/-! ### The voice pool -/

theorem startVoice_poolWork (p : Player) (L : LayerNo) (c : StartContents) (v : VoiceNo) (s : State) :
    PoolWork s (startVoice p L c v s) :=
  ((modVoice_poolWork v _ s).trans (startOrder_poolWork _ _)).trans (issue_poolWork v _ _)

theorem endIncarnation_poolWork (v : VoiceNo) (s : State) : PoolWork s (endIncarnation v s) :=
  (((PoolWork.ite (modPlayer_poolWork _ _ s) (.refl s)).trans (issue_poolWork v .cut _)).trans
    (modVoice_poolWork v _ _)).trans (startOrder_poolWork _ _)

theorem freeVoice_poolWork (v : VoiceNo) (s : State) : PoolWork s (freeVoice v s) :=
  (modVoice_poolWork v _ s).trans (freeList_poolWork _ _)

theorem cutVoice_poolWork (v : VoiceNo) (s : State) : PoolWork s (cutVoice v s) :=
  .ite (.refl s) ((endIncarnation_poolWork v s).trans (freeVoice_poolWork v _))

theorem fillSlot_poolWork (p : Player) (L : LayerNo) (v : VoiceNo) (s : State) : PoolWork s (fillSlot p L v s) :=
  modPlayer_poolWork p _ s

theorem stealVoice_poolWork (p : Player) (L : LayerNo) (c : StartContents) (v : VoiceNo) (s : State) :
    PoolWork s (stealVoice p L c v s) :=
  (((endIncarnation_poolWork v s).trans (startVoice_poolWork p L c v _)).trans (modCounters_poolWork _ _)).trans
    (broadcast_poolWork _ _)

theorem dropLayer_poolWork (s : State) : PoolWork s (dropLayer s) :=
  (modCounters_poolWork _ s).trans (broadcast_poolWork _ _)

theorem allocate_poolWork (p : Player) (L : LayerNo) (c : StartContents) (s : State) : PoolWork s (allocate p L c s) := by
  unfold allocate
  split
  · exact ((freeList_poolWork _ s).trans (startVoice_poolWork p L c _ _)).trans (fillSlot_poolWork p L _ _)
  · split
    · exact (stealVoice_poolWork p L c _ s).trans (fillSlot_poolWork p L _ _)
    · exact dropLayer_poolWork s

theorem holdVoice_poolWork (v : VoiceNo) (s : State) : PoolWork s (holdVoice v s) :=
  .ite (modVoice_poolWork v _ s) (.refl s)

theorem releaseVoice_poolWork (v : VoiceNo) (s : State) : PoolWork s (releaseVoice v s) :=
  .ite ((modVoice_poolWork v _ s).trans (issue_poolWork v _ _)) (.refl s)

theorem releaseGroup_poolWork (which : Voice → Bool) (s : State) : PoolWork s (releaseGroup which s) :=
  .foldl (fun t v => .ite (releaseVoice_poolWork v t) (.refl t)) _ s

theorem cutAll_poolWork (s : State) : PoolWork s (cutAll s) := .foldl (fun t v => cutVoice_poolWork v t) _ s

theorem releaseTaken_poolWork (i : Incarnation) (use : Nat) (s : State) : PoolWork s (releaseTaken i use s) :=
  .ite (modVoice_poolWork _ _ s) (.refl s)

theorem takeReturn_poolWork (v : VoiceNo) (g : BitVec 4) (s : State) : PoolWork s (takeReturn v g s) := by
  unfold takeReturn
  split
  · exact ((modVoice_poolWork v _ s).trans (startOrder_poolWork _ _)).trans (freeVoice_poolWork v _)
  all_goals exact (modCounters_poolWork _ s).trans (broadcast_poolWork _ _)

theorem reclaimVoice_poolWork (v : VoiceNo) (s : State) : PoolWork s (reclaimVoice v s) :=
  ((cutVoice_poolWork v s).trans (modCounters_poolWork _ _)).trans (broadcast_poolWork _ _)

/-! ### Articulation -/

theorem askLayer_poolWork (p : Player) (base : Nat) (L : LayerNo) (s : State) : PoolWork s (askLayer p base L s) :=
  .ite (allocate_poolWork p L _ s) (.refl s)

theorem buildNote_poolWork (p : Player) (base : Nat) (s : State) : PoolWork s (buildNote p base s) :=
  .foldl (fun t L => askLayer_poolWork p base L t) _ s

theorem attack_poolWork (p : Player) (s : State) : PoolWork s (attack p s) :=
  (modPlayer_poolWork p _ s).trans (buildNote_poolWork p _ _)

theorem dropNote_poolWork (p : Player) (a : ArtState) (s : State) : PoolWork s (dropNote p a s) := modPlayer_poolWork p _ s

theorem releaseNote_poolWork (p : Player) (s : State) : PoolWork s (releaseNote p s) := by
  refine (forEachSlot_poolWork p (fun v t => ?_) s).trans (dropNote_poolWork p _ _)
  split
  · exact holdVoice_poolWork v t
  · exact releaseVoice_poolWork v t

theorem releaseSlot_poolWork (p : Player) (L : LayerNo) (s : State) : PoolWork s (releaseSlot p L s) := by
  unfold releaseSlot
  split
  · exact (releaseVoice_poolWork _ s).trans (modPlayer_poolWork p _ _)
  · exact .refl s

theorem legatoLayer_poolWork (p : Player) (base : Nat) (L : LayerNo) (s : State) : PoolWork s (legatoLayer p base L s) := by
  unfold legatoLayer
  split
  · split
    · exact .ite (.refl s) ((modVoice_poolWork _ _ s).trans (issue_poolWork _ _ _))
    · exact releaseSlot_poolWork p L s
  · exact askLayer_poolWork p base L s

theorem pitchChange_poolWork (p : Player) (base : Nat) (s : State) : PoolWork s (pitchChange p base s) := by
  unfold pitchChange
  split
  · exact (modPlayer_poolWork p _ s).trans (.foldl (fun t L => legatoLayer_poolWork p base L t) _ _)
  · have written : PoolWork s (writeBase p base s) := modPlayer_poolWork p _ s
    refine written.trans ?_
    exact .ite ((PoolWork.foldl (fun t L => releaseSlot_poolWork p L t) _ _).trans (buildNote_poolWork p base _)) (.refl _)

theorem resolveNote_poolWork (p : Player) (s : State) : PoolWork s (resolveNote p s) := by
  have noted : PoolWork s (noteResolution p s) := modPlayer_poolWork p _ s
  unfold resolveNote
  dsimp only
  split
  · exact .ite noted (noted.trans (pitchChange_poolWork p _ _))
  · exact noted

theorem fingeringChange_poolWork (p : Player) (s : State) : PoolWork s (fingeringChange p s) :=
  .ite (.ite (resolveNote_poolWork p s) (modPlayer_poolWork p _ s)) (.refl s)

theorem holdReleased_poolWork (p : Player) (s : State) : PoolWork s (holdReleased p s) := releaseGroup_poolWork _ s

theorem quietPlayers_poolWork (s : State) : PoolWork s (quietPlayers s) :=
  (PoolWork.ite (dropNote_poolWork .p1 _ s) (.refl s)).trans (.ite (dropNote_poolWork .p2 _ _) (.refl _))

theorem releaseAll_poolWork (s : State) : PoolWork s (releaseAll s) :=
  (releaseGroup_poolWork _ s).trans (quietPlayers_poolWork _)

theorem cutAllCode_poolWork (s : State) : PoolWork s (cutAllCode s) := (cutAll_poolWork s).trans (quietPlayers_poolWork _)

theorem rendererLoss_poolWork (s : State) : PoolWork s (rendererLoss s) :=
  ((cutAll_poolWork s).trans (broadcast_poolWork _ _)).trans (quietPlayers_poolWork _)

theorem disableNote_poolWork (p : Player) (s : State) : PoolWork s (disableNote p s) :=
  (releaseGroup_poolWork _ s).trans (dropNote_poolWork p _ _)

theorem enablePlayer_poolWork (p : Player) (s : State) : PoolWork s (enablePlayer p s) := modPlayer_poolWork p _ s

/-! ### Sweeps and scans -/

theorem faultUpdate_poolWork (p : Player) (t : Transducer) (x : Sample) (s : State) : PoolWork s (faultUpdate p t x s) := by
  unfold faultUpdate
  dsimp only
  refine .ite (.ite (modPlayer_poolWork p _ s) ?_) (modPlayer_poolWork p _ s)
  split
  · exact ((modPlayer_poolWork p _ s).trans (modCounters_poolWork _ _)).trans (broadcast_poolWork _ _)
  · exact (modPlayer_poolWork p _ s).trans (broadcast_poolWork _ _)

theorem faultUpdates_poolWork (p : Player) (x : Sample × Sample) (s : State) : PoolWork s (faultUpdates p x s) :=
  (faultUpdate_poolWork p .breath x.1 s).trans (faultUpdate_poolWork p .lip x.2 _)

theorem warmupWork_poolWork (p : Player) (s : State) : PoolWork s (warmupWork p s) :=
  .ite (modPlayer_poolWork p _ s)
    (.ite ((modPlayer_poolWork p _ s).trans (modPlayer_poolWork p _ _)) (modPlayer_poolWork p _ s))

theorem captureWork_poolWork (p : Player) (counts : Bool) (x : Sample × Sample) (s : State) :
    PoolWork s (captureWork p counts x s) := by
  have begun := (faultUpdates_poolWork p x s).trans (modPlayer_poolWork p (fun q => { q.driftCleared with n := 0, bend := 0 }) _)
  unfold captureWork
  dsimp only
  refine .ite ?_ begun
  have gathered := begun.trans (modPlayer_poolWork p (PlayerState.captureAdvanced x) _)
  exact .ite gathered ((gathered.trans (modPlayer_poolWork p _ _)).trans (notify_poolWork _ _ _))

theorem sweepDecision_poolWork (p : Player) (s : State) : PoolWork s (sweepDecision p s) := by
  unfold sweepDecision
  dsimp only
  split
  · exact .ite (attack_poolWork p s) (.refl s)
  · exact .ite (releaseNote_poolWork p s) (.refl s)
  · exact .ite (dropNote_poolWork p _ s) (.refl s)
  all_goals exact .refl s

theorem playWork_poolWork (p : Player) (x : Sample × Sample) (s : State) : PoolWork s (playWork p x s) :=
  (((((faultUpdates_poolWork p x s).trans (modPlayer_poolWork p _ _)).trans (sweepDecision_poolWork p _)).trans
    (shapeVoices_poolWork p _)).trans (reportBend_poolWork p _)).trans (modPlayer_poolWork p _ _)

theorem convertedWork_poolWork (p : Player) (w : Sweep) (s : State) : PoolWork s (convertedWork p w s) := by
  refine .ite ?_ (.refl s)
  unfold playerWork
  split
  · exact .refl s
  · exact warmupWork_poolWork p s
  · exact captureWork_poolWork p _ _ s
  all_goals exact playWork_poolWork p _ s

/-- A sweep's completion is pool work, but that the sweep is over. -/
theorem completeSweep_poolWork (s : State) : PoolWork { s with sweep := none } (completeSweep s) := by
  unfold completeSweep
  split
  · rename_i h
    have e : { s with sweep := none } = s := by rw [← h]
    rw [e]
    exact .refl s
  · exact (convertedWork_poolWork .p1 _ _).trans (convertedWork_poolWork .p2 _ _)

theorem scanPlayer_poolWork (p : Player) (w : Scan) (holdFirst : Bool) (s : State) :
    PoolWork s (scanPlayer p w holdFirst s) := by
  have read := modPlayer_poolWork p (PlayerState.scanned (w.takeOver.get p) (w.readings.get p)) s
  have fingers : ∀ b t, PoolWork t (handFingering p b t) := fun b t => .ite (.refl t) (fingeringChange_poolWork p t)
  have hold : ∀ b t, PoolWork t (handHold p b t) := fun b t => .ite (holdReleased_poolWork p t) (.refl t)
  unfold scanPlayer
  dsimp only
  exact .ite (.ite ((read.trans (hold _ _)).trans (fingers _ _)) ((read.trans (fingers _ _)).trans (hold _ _))) read

/-- The completion of a scan in progress is pool work, but that the scan is over and its lines rest. -/
theorem completeScan_poolWork (a b : Bool) (s : State) (h : s.scan ≠ none) : PoolWork (endScan s) (completeScan a b s) := by
  unfold completeScan
  split
  · rename_i none
    exact absurd none h
  · exact (scanPlayer_poolWork .p1 _ _ _).trans (scanPlayer_poolWork .p2 _ _ _)

/-! ### Time -/

/-- Everything a timer's running out can do: its work after the remaining time, or nothing at all. -/
theorem atExpiry_cases (timer : State → Option Nat) (work : State → State) (s : State) :
    (∃ d, timer s = some d ∧ d ≤ s.untilLinkEvent ∧ atExpiry timer work s = work (s.advanceTo (s.bitTime + d))) ∨
      atExpiry timer work s = s ∧ ∀ d, timer s = some d → s.untilLinkEvent < d := by
  unfold atExpiry
  split
  · rename_i d h
    split
    · exact .inl ⟨d, h, ‹_›, rfl⟩
    · exact .inr ⟨rfl, fun e k => by rw [h] at k; cases k; omega⟩
  · rename_i h
    exact .inr ⟨rfl, fun d k => by rw [h] at k; cases k⟩

/-- Time that passes moves settle timers, return timers, the busy wait of a load and that of a store, and nothing else. -/
theorem elapse_frame (d : Nat) (s : State) :
    s.elapse d =
      { s with
        players := (s.elapse d).players, voices := (s.elapse d).voices, load := (s.elapse d).load
        store := (s.elapse d).store } := rfl

@[simp] theorem player_elapse (d : Nat) (p : Player) (s : State) :
    (s.elapse d).player p = { s.player p with settle := elapseTimer d (s.player p).settle } := by cases p <;> rfl

@[simp] theorem voice_elapse (d : Nat) (v : VoiceNo) (s : State) :
    (s.elapse d).voice v = { s.voice v with timer := elapseTimer d (s.voice v).timer } := by
  simp [State.elapse, State.voice]

@[simp] theorem station_elapse (d : Nat) (st : Station) (s : State) : (s.elapse d).station st = s.station st := rfl

@[simp] theorem settings_elapse (d : Nat) (p : Player) (s : State) : (s.elapse d).settings p = s.settings p := rfl

/-- A place in the frame is reached by letting the time up to it pass, for the timers and for the link's lines. -/
theorem advanceTo_frame (t : Nat) (s : State) :
    s.advanceTo t =
      { s.elapse (t - s.bitTime) with bitTime := max s.bitTime t, pins := s.pins.after s.bitTime (t - s.bitTime) } := rfl

/-- Where no time passes the lines stand. -/
@[simp] theorem Pins.after_zero (place : Nat) (x : Pins) : x.after place 0 = x := by simp [Pins.after]

@[simp] theorem Pins.after_msl (place d : Nat) (x : Pins) : (x.after place d).msl = x.msl := rfl

@[simp] theorem Pins.after_mck (place d : Nat) (x : Pins) : (x.after place d).mck = x.mck := rfl

@[simp] theorem Pins.after_kd (place d : Nat) (x : Pins) : (x.after place d).kd = x.kd := rfl

@[simp] theorem Pins.after_lck (place d : Nat) (x : Pins) : (x.after place d).lck = x.lck := rfl

@[simp] theorem player_advanceTo (t : Nat) (p : Player) (s : State) :
    (s.advanceTo t).player p = (s.elapse (t - s.bitTime)).player p := rfl

@[simp] theorem voice_advanceTo (t : Nat) (v : VoiceNo) (s : State) :
    (s.advanceTo t).voice v = (s.elapse (t - s.bitTime)).voice v := rfl

@[simp] theorem station_advanceTo (t : Nat) (st : Station) (s : State) : (s.advanceTo t).station st = s.station st := rfl

/-- The next link event lies ahead within the frame. -/
theorem untilLinkEvent_le (s : State) : s.untilLinkEvent ≤ Config.bitsPerFrame - s.bitTime := Nat.min_le_right _ _

end Sys2Proof.Machine
end

