-- ==== Sys2Proof/Laws/Memory.lean ====
section
/-!
SUPPORT. The laws of the image memory's bytes: every operation keeps the canonical form, and a read after a write.
-/
namespace Sys2Proof.Machine

open Sys2Proof

/-- The canonical form, one cell at a time. -/
theorem Memory.wf_cons {a : Nat} {x : Byte} {m : List Host.Cell} :
    Memory.wf ((a, x) :: m) = true ↔ x ≠ 0xFF ∧ (∀ c ∈ m, a < c.1) ∧ Memory.wf m = true := by
  induction m generalizing a x with
  | nil => simp [Memory.wf]
  | cons c r ih =>
    obtain ⟨b, y⟩ := c
    have unfolded : Memory.wf ((a, x) :: (b, y) :: r) = (x != 0xFF && decide (a < b) && Memory.wf ((b, y) :: r)) := rfl
    rw [unfolded]
    simp only [Bool.and_eq_true, bne_iff_ne, ne_eq, decide_eq_true_eq, List.mem_cons, forall_eq_or_imp]
    constructor
    · rintro ⟨⟨hx, hab⟩, hw⟩
      exact ⟨hx, ⟨hab, fun c hc => Nat.lt_trans hab ((ih.mp hw).2.1 c hc)⟩, hw⟩
    · rintro ⟨hx, ⟨hab, -⟩, hw⟩
      exact ⟨⟨hx, hab⟩, hw⟩

/-- What a write may leave in the memory. -/
theorem Memory.mem_write {m : List Host.Cell} {a : Nat} {x : Byte} {c : Host.Cell} (h : c ∈ Memory.write m a x) :
    c = (a, x) ∨ c ∈ m := by
  induction m with
  | nil =>
    simp only [Memory.write] at h
    split at h <;> simp_all
  | cons d r ih =>
    obtain ⟨b, y⟩ := d
    simp only [Memory.write] at h
    split at h
    · split at h <;> simp_all
    · split at h
      · split at h
        · simp_all
        · simp only [List.mem_cons] at h ⊢
          rcases h with h | h
          · exact .inl h
          · exact .inr (.inr h)
      · simp only [List.mem_cons] at h ⊢
        rcases h with h | h
        · exact .inr (.inl h)
        · rcases ih h with h | h
          · exact .inl h
          · exact .inr (.inr h)

/-- A write keeps the canonical form. -/
theorem Memory.write_wf {m : List Host.Cell} (a : Nat) (x : Byte) (h : Memory.wf m = true) :
    Memory.wf (Memory.write m a x) = true := by
  induction m with
  | nil =>
    simp only [Memory.write]
    split
    · rfl
    · simp_all [Memory.wf_cons]
  | cons d r ih =>
    obtain ⟨b, y⟩ := d
    obtain ⟨hy, hr, hw⟩ := Memory.wf_cons.mp h
    simp only [Memory.write]
    split
    · rename_i hab
      split
      · exact h
      · rename_i hx
        refine Memory.wf_cons.mpr ⟨hx, ?_, h⟩
        intro c hc
        rcases List.mem_cons.mp hc with rfl | hc
        · exact hab
        · exact Nat.lt_trans hab (hr c hc)
    · split
      · rename_i hne hab
        subst hab
        split
        · exact hw
        · rename_i hx
          exact Memory.wf_cons.mpr ⟨hx, hr, hw⟩
      · rename_i hlt hne
        refine Memory.wf_cons.mpr ⟨hy, ?_, ih hw⟩
        intro c hc
        rcases Memory.mem_write hc with rfl | hc
        · exact Nat.lt_of_le_of_ne (Nat.le_of_not_lt hlt) (Ne.symm hne)
        · exact hr c hc

/-- A write of consecutive bytes keeps the canonical form. -/
theorem Memory.writeBytes_wf {m : List Host.Cell} (a : Nat) (l : List Byte) (h : Memory.wf m = true) :
    Memory.wf (Memory.writeBytes m a l) = true := by
  induction l generalizing m a with
  | nil => exact h
  | cons x l ih => exact ih (a + 1) (Memory.write_wf a x h)

/-- A filter keeps the canonical form. -/
theorem Memory.filter_wf {m : List Host.Cell} (f : Host.Cell → Bool) (h : Memory.wf m = true) :
    Memory.wf (m.filter f) = true := by
  induction m with
  | nil => rfl
  | cons d r ih =>
    obtain ⟨b, y⟩ := d
    obtain ⟨hy, hr, hw⟩ := Memory.wf_cons.mp h
    rw [List.filter_cons]
    split
    · exact Memory.wf_cons.mpr ⟨hy, fun c hc => hr c ((List.mem_filter.mp hc).1), ih hw⟩
    · exact ih hw

/-- A sector erase keeps the canonical form. -/
theorem Memory.eraseSector_wf {m : List Host.Cell} (h : Memory.wf m = true) :
    Memory.wf (Memory.eraseSector m) = true := Memory.filter_wf _ h

/-- The memory right after reset has the canonical form. -/
theorem reset_flash_wf : Memory.wf State.reset.flash = true := rfl

/-- A byte below every listed address reads FFh. -/
theorem Memory.read_below {m : List Host.Cell} {a : Nat} (h : ∀ c ∈ m, a < c.1) : Memory.read m a = 0xFF := by
  induction m with
  | nil => rfl
  | cons d r ih =>
    obtain ⟨b, y⟩ := d
    have hb : a < b := h (b, y) (List.mem_cons_self ..)
    simp only [Memory.read, if_neg (Nat.ne_of_gt hb)]
    exact ih fun c hc => h c (List.mem_cons_of_mem _ hc)

/-- A read after a write gives the byte written there and leaves every other place alone. -/
theorem Memory.read_write {m : List Host.Cell} (a b : Nat) (x : Byte) (h : Memory.wf m = true) :
    Memory.read (Memory.write m a x) b = if b = a then x else Memory.read m b := by
  induction m with
  | nil =>
    simp only [Memory.write]
    split
    · simp_all [Memory.read]
    · simp [Memory.read, eq_comm]
  | cons d r ih =>
    obtain ⟨c, y⟩ := d
    obtain ⟨hy, hr, hw⟩ := Memory.wf_cons.mp h
    simp only [Memory.write]
    split
    · rename_i hac
      have hlow : Memory.read ((c, y) :: r) a = 0xFF := Memory.read_below fun e he => by
        rcases List.mem_cons.mp he with rfl | he
        · exact hac
        · exact Nat.lt_trans hac (hr e he)
      split
      · rename_i hx
        by_cases hb : b = a
        · subst hb; simp [hlow, hx]
        · simp [hb]
      · by_cases hb : b = a
        · simp [Memory.read, hb]
        · simp [Memory.read, hb, Ne.symm hb]
    · split
      · rename_i hlt hac
        subst hac
        have hlow : Memory.read r a = 0xFF := Memory.read_below hr
        split
        · rename_i hx
          by_cases hb : b = a
          · subst hb; simp [hlow, hx]
          · simp [Memory.read, hb, Ne.symm hb]
        · by_cases hb : b = a
          · simp [Memory.read, hb]
          · simp [Memory.read, hb, Ne.symm hb]
      · rename_i hlt hac
        by_cases hcb : c = b
        · subst hcb
          simp [Memory.read, Ne.symm hac]
        · simp only [Memory.read, if_neg hcb]
          exact ih hw

end Sys2Proof.Machine
end

