-- ==== Sys2Proof/Laws/Operands.lean ====
section
/-!
SUPPORT. What the sample of a sensor input can be (R177).
-/
namespace Sys2Proof

open Machine

/-- Everything a proportion can be: full scale, 0, or the count next to 4095 · v / full on the side asked for. -/
theorem proportion_cases (full : Nat) (up : Bool) (v : Int) :
    ((full : Int) ≤ v ∧ proportion full up v = 4095) ∨
    (v < full ∧ v ≤ 0 ∧ proportion full up v = 0) ∨
    (0 < v ∧ v < full ∧ up = true ∧ 4095 * v ≤ proportion full up v * full ∧
      proportion full up v * full < 4095 * v + full) ∨
    (0 < v ∧ v < full ∧ up = false ∧ 4095 * v - full < proportion full up v * full ∧
      proportion full up v * full ≤ 4095 * v) := by
  unfold proportion
  split
  · exact .inl ⟨‹_›, rfl⟩
  · split
    · exact .inr (.inl ⟨by omega, ‹_›, rfl⟩)
    · have hf : (0 : Int) < full := by omega
      cases up
      · have h1 := Int.mul_ediv_add_emod (4095 * v) full
        have h2 := Int.emod_nonneg (4095 * v) (Int.ne_of_gt hf)
        have h3 := Int.emod_lt_of_pos (4095 * v) hf
        rw [Int.mul_comm full] at h1
        simp only [Bool.false_eq_true, if_false]
        exact .inr (.inr (.inr ⟨by omega, by omega, trivial, by omega, by omega⟩))
      · have h1 := Int.mul_ediv_add_emod (4095 * v + (full - 1)) full
        have h2 := Int.emod_nonneg (4095 * v + (full - 1)) (Int.ne_of_gt hf)
        have h3 := Int.emod_lt_of_pos (4095 * v + (full - 1)) hf
        rw [Int.mul_comm full] at h1
        simp only [if_true]
        exact .inr (.inr (.inl ⟨by omega, by omega, trivial, by omega, by omega⟩))

/-- A proportion is a count of 12 bits. -/
theorem proportion_range (full : Nat) (up : Bool) (v : Int) :
    0 ≤ proportion full up v ∧ proportion full up v ≤ 4095 := by
  obtain ⟨-, h⟩ | ⟨-, -, h⟩ | ⟨h0, h1, -, h2, h3⟩ | ⟨h0, h1, -, h2, h3⟩ := proportion_cases full up v
  · omega
  · omega
  all_goals
    have lo : 0 < proportion full up v * full + full := by omega
    have hi : proportion full up v * full < 4096 * full := by omega
    have p : 0 < (full : Int) := by omega
    have l : 0 < proportion full up v + 1 :=
      Int.pos_of_mul_pos_left (b := (full : Int)) (by rw [Int.add_mul]; omega) p
    have := Int.lt_of_mul_lt_mul_right hi (Int.le_of_lt p)
    omega

/-- The sample that a voltage converts to is its proportion of the reference. -/
theorem SensorInput.sample_toNat (vref : Nat) (up : Bool) (v : Int) :
    (((SensorInput.voltage v).sample vref up).toNat : Int) = proportion vref up v := by
  obtain ⟨h0, h1⟩ := proportion_range vref up v
  simp only [SensorInput.sample, BitVec.toNat_ofInt]
  omega

@[simp] theorem SensorInput.sample_unconnected (vref : Nat) (up : Bool) :
    SensorInput.unconnected.sample vref up = 0 := rfl

end Sys2Proof
end

