-- ==== Sys2Proof/Laws/Queues.lean ====
section
/-!
SUPPORT. What issuing an event can do: it changes waiting lists, the OVERFLOW notice and the overflow counter, nothing
else, and at a station that does not receive it nothing at all.
-/
namespace Sys2Proof.Machine

open Sys2Proof

/-- `t` differs from `s` in the stations' waiting lists and pending sets and in the overflow counter at most. -/
structure QueueWork (s t : State) : Prop where
  pool : PoolWork s t
  players : t.players = s.players
  voices : t.voices = s.voices
  freeList : t.freeList = s.freeList
  startOrder : t.startOrder = s.startOrder
  counters : t.counters = { s.counters with overflows := t.counters.overflows }
  station : ∀ st, t.station st =
    { s.station st with waiting := (t.station st).waiting, attention := (t.station st).attention }

theorem QueueWork.refl (s : State) : QueueWork s s := by
  constructor <;> first | exact PoolWork.refl s | intros; rfl

theorem QueueWork.trans {s t u : State} (h : QueueWork s t) (k : QueueWork t u) : QueueWork s u where
  pool := h.pool.trans k.pool
  players := k.players.trans h.players
  voices := k.voices.trans h.voices
  freeList := k.freeList.trans h.freeList
  startOrder := k.startOrder.trans h.startOrder
  counters := by rw [k.counters, h.counters]
  station st := by rw [k.station st, h.station st]

theorem QueueWork.ite {c : Prop} [Decidable c] {s t u : State} (h : QueueWork s t) (k : QueueWork s u) :
    QueueWork s (if c then t else u) := by split <;> assumption

theorem QueueWork.foldl {α : Type} {f : State → α → State} (h : ∀ t a, QueueWork t (f t a)) (l : List α) (s : State) :
    QueueWork s (l.foldl f s) := by
  induction l generalizing s with
  | nil => exact .refl s
  | cons a l ih => exact (h s a).trans (ih (f s a))

theorem setWaiting_queueWork (st : Station) (w : List Entry) (s : State) : QueueWork s (setWaiting st w s) where
  pool := setWaiting_poolWork st w s
  players := rfl
  voices := rfl
  freeList := rfl
  startOrder := rfl
  counters := rfl
  station x := by
    unfold setWaiting
    rw [State.station_modStation]
    split
    · next h => subst h; rfl
    · rfl

theorem overflowQueue_queueWork (st : Station) (s : State) : QueueWork s (overflowQueue st s) where
  pool := overflowQueue_poolWork st s
  players := rfl
  voices := rfl
  freeList := rfl
  startOrder := rfl
  counters := rfl
  station x := by
    unfold overflowQueue setPending setWaiting
    rw [State.station_modStation, State.station_modCounters, State.station_modStation, State.station_modCounters,
      State.station_modStation]
    split
    · next h => subst h; simp [StationState.withPending]
    · rfl

theorem appendEntry_queueWork (st : Station) (e : Entry) (s : State) : QueueWork s (appendEntry st e s) :=
  .ite (overflowQueue_queueWork st s) (setWaiting_queueWork st _ s)

theorem mergeEntry_queueWork (st : Station) (v : VoiceNo) (use : Nat) (kind : Entry → Bool) (f : Entry → Entry)
    (e : Entry) (s : State) : QueueWork s (mergeEntry st v use kind f e s) :=
  .ite (setWaiting_queueWork st _ s) (.ite (setWaiting_queueWork st _ s) (appendEntry_queueWork st e s))

theorem placeEvent_queueWork (st : Station) (v : VoiceNo) (gen : BitVec 4) (p : Player) (use : Nat) (ev : Event)
    (s : State) : QueueWork s (placeEvent st v gen p use ev s) := by
  cases ev with
  | start => exact appendEntry_queueWork st _ s
  | pitch => exact mergeEntry_queueWork ..
  | level => exact mergeEntry_queueWork ..
  | release => exact appendEntry_queueWork st _ s
  | cut => exact .ite (setWaiting_queueWork st _ s) ((setWaiting_queueWork st _ s).trans (appendEntry_queueWork st _ _))

/-- Issuing an event is queue work. -/
theorem issue_queueWork (v : VoiceNo) (ev : Event) (s : State) : QueueWork s (issue v ev s) :=
  .foldl (fun t st => .ite (placeEvent_queueWork st v _ _ _ ev t) (.refl t)) _ s

@[simp] theorem issue_players (v : VoiceNo) (ev : Event) (s : State) : (issue v ev s).players = s.players :=
  (issue_queueWork v ev s).players

@[simp] theorem issue_voices (v : VoiceNo) (ev : Event) (s : State) : (issue v ev s).voices = s.voices :=
  (issue_queueWork v ev s).voices

@[simp] theorem issue_freeList (v : VoiceNo) (ev : Event) (s : State) : (issue v ev s).freeList = s.freeList :=
  (issue_queueWork v ev s).freeList

@[simp] theorem issue_startOrder (v : VoiceNo) (ev : Event) (s : State) : (issue v ev s).startOrder = s.startOrder :=
  (issue_queueWork v ev s).startOrder

/-- Placing an event in one station's queue leaves the others alone. -/
theorem placeEvent_station_ne {st x : Station} (h : x ≠ st) (v : VoiceNo) (gen : BitVec 4) (p : Player) (use : Nat)
    (ev : Event) (s : State) : (placeEvent st v gen p use ev s).station x = s.station x := by
  have waits : ∀ w (t : State), (setWaiting st w t).station x = t.station x := fun w t => by
    simp [setWaiting, State.station_modStation, h]
  have appends : ∀ e (t : State), (appendEntry st e t).station x = t.station x := fun e t => by
    unfold appendEntry overflowQueue setPending
    split
    · simp [State.station_modStation, h, waits]
    · exact waits _ t
  have merges : ∀ k f e, (mergeEntry st v use k f e s).station x = s.station x := fun k f e => by
    unfold mergeEntry
    dsimp only
    split
    · exact waits _ s
    · split
      · exact waits _ s
      · exact appends e s
  cases ev with
  | start => exact appends _ s
  | pitch => exact merges _ _ _
  | level => exact merges _ _ _
  | release => exact appends _ s
  | cut =>
    unfold placeEvent
    dsimp only
    split
    · exact waits _ s
    · rw [appends, waits]

end Sys2Proof.Machine
end

