-- ==== Sys2Proof/WellFormed.lean ====
section
/-!
DEFINITION. Which commands are well formed: what the sender may put into the operands beyond their types.
-/
namespace Sys2Proof

/-- A memory answer brings exactly as many bytes as the part reads (R170). -/
def MemAnswer.wellFormed (n : Nat) : MemAnswer → Bool
  | .stored => true
  | .bytes l => l.length == n

/-- The order of an upstream slot names each lane once (R138). -/
def laneOrderWellFormed (order : List SlotLane) : Bool :=
  order.length == 4 && order.contains .echo && order.contains .giveBack && order.contains .edit &&
    order.contains .message

/-- VREF is 2.5 V to VDD, and VDD at most 3.6 V (the tables above R176), in microvolts. -/
def referenceWellFormed (vref : Nat) : Bool := decide (2500000 ≤ vref ∧ vref ≤ 3600000)

/-- At most the four stations drive the upstream line (R130, R176). -/
def drivesWellFormed (drives : List (BitVec 48)) : Bool := decide (drives.length ≤ 4)

/-- The well-formed commands. -/
def Instr.wellFormed : Instr → Bool
  | .sweepStart vref _ _ _ => referenceWellFormed vref
  | .sweepCompletion => true
  | .faultEntry _ _ => true
  | .faultExit _ _ => true
  | .warmupEnd _ => true
  | .captureCompletion _ => true
  | .driftStep _ => true
  | .scanStart _ _ => true
  | .scanCompletion _ _ => true
  | .settleExpiry _ => true
  | .reclaim _ => true
  | .frameSync => true
  | .downstreamSlot _ => true
  | .upstreamSlot _ drives order => drivesWellFormed drives && laneOrderWellFormed order
  | .stationLost _ => true
  | .readStatus _ => true
  | .readCounters _ => true
  | .clearCounters _ => true
  | .readEntry _ _ => true
  | .writeEntry _ _ _ => true
  | .clearEntry _ _ => true
  | .readChart _ _ => true
  | .writeChart _ _ _ _ => true
  | .resolve _ _ _ => true
  | .readLayer _ _ _ => true
  | .writeLayer _ _ _ _ => true
  | .readCurve _ _ => true
  | .writeCurve _ _ _ => true
  | .readPlayer _ _ => true
  | .writePlayer _ _ _ _ => true
  | .zeroCapture _ _ => true
  | .readPart _ => true
  | .writePart _ _ _ => true
  | .readRoute _ _ => true
  | .writeRoute _ _ _ => true
  | .readVoice _ _ => true
  | .readPool _ => true
  | .readAttention _ => true
  | .takeAttention _ => true
  | .clearAttention _ _ => true
  | .maskAttention _ _ => true
  | .unmaskAttention _ _ => true
  | .signal _ _ => true
  | .storeImage _ => true
  | .storeStepDone => true
  | .storeBusyLimit => true
  | .loadImage _ => true
  | .loadBusyWaitEnd => true
  | .loadBusyLimit => true
  | .loadHeaderRead answer => answer.wellFormed Config.pageBytes
  | .loadBodyRead answer => answer.wellFormed Config.bodyBytes
  | .restart _ => true
  | .restartRequest => true
  | .powerOn => true
  | .resetAsserted _ => true
  | .resetLine => true

end Sys2Proof
end

