-- ==== Sys2Proof/Tests/Slice0.lean ====
section
/-!
SUPPORT. Small tests: the checks of WellFormed, request bytes written out from the catalogue of R148, the spec's worked
cases, one or two outcomes for each command, and a witness for the hypotheses of every statement that has some.
-/
namespace Sys2Proof.Machine.Tests

open Sys2Proof Sys2Proof.Machine

set_option Elab.async false

/-! ### Small states -/

/-- The part in RUN: player 1 enabled, SILENT and blowing n = 1024; station 0, the renderer, READY and holding the grant. -/
def play : State :=
  { State.reset with
    partState := .run, load := none, port := []
    tables := { Tables.defaults with settings := ⟨Settings.default true, Settings.default false⟩ }
    players := ⟨{ PlayerState.reset with art := .silent, n := 1024 }, PlayerState.reset⟩
    stations := (Tab.const 4 StationState.reset).set 0 { StationState.reset with code := .ready, editRequest := true }
    grant := some 0 }

/-- The outcome of a command, when it is a next state. -/
def after (c : Instr) (s : State) : Option State :=
  match exec c s with
  | .next t => some t
  | .fault _ => none
  | .refused _ => none

/-- A sweep of player 1's channels. -/
def sweepOf (breath lip : Sample) : Sweep := ⟨⟨true, false⟩, ⟨false, false⟩, ⟨(breath, lip), (0, 0)⟩⟩

/-- `play` with a change to player 1 and a sweep about to complete. -/
def sweeping (breath lip : Sample) (f : PlayerState → PlayerState) : State :=
  { play with sweep := some (sweepOf breath lip) }.modPlayer .p1 f

/-- `play` after player 1's attack: voice 0 is ACTIVE with generation 1. -/
def sounding : State := attack .p1 play

/-- The upstream slot of a READY station that asks for the grant, with the given message byte and flag byte. -/
def slotOf (code message flags : Byte) : BitVec 48 :=
  code ++ 0#8 ++ 0#8 ++ message ++ flags ++ (code ^^^ message ^^^ flags)

/-- An upstream slot with the given first two bytes. -/
def mkSlot (first second : Byte) : BitVec 48 := first ++ second ++ 0#8 ++ 0#8 ++ 0#8 ++ (first ^^^ second)

/-! ### WellFormed refuses what it should -/

theorem test_wellFormed_refuses_short_lane_order :
    (Instr.upstreamSlot 0 [] [.echo, .giveBack, .edit]).wellFormed = false := by decide

theorem test_wellFormed_refuses_repeated_lane :
    (Instr.upstreamSlot 0 [] [.echo, .giveBack, .edit, .edit]).wellFormed = false := by decide

theorem test_wellFormed_refuses_five_drives :
    (Instr.upstreamSlot 0 [0, 0, 0, 0, 0] [.echo, .giveBack, .edit, .message]).wellFormed = false := by decide

theorem test_wellFormed_refuses_low_reference :
    (Instr.sweepStart 2499999 ⟨.unconnected, .unconnected⟩ ⟨.unconnected, .unconnected⟩ (.both (true, true))).wellFormed = false := by decide

theorem test_wellFormed_refuses_short_header : (Instr.loadHeaderRead (.bytes [0x5A])).wellFormed = false := by decide

theorem test_wellFormed_refuses_short_body : (Instr.loadBodyRead (.bytes [])).wellFormed = false := by decide

theorem test_wellFormed_takes_a_slot :
    (Instr.upstreamSlot 0 [0] [.echo, .giveBack, .edit, .message]).wellFormed = true := by decide

/-! ### Request bytes, from the catalogue of R148 -/

theorem test_decode_writeEntry :
    decodeRequest [0x11, 30, 1, 2, 0, 0, 7, 0, 0, 0x87, 140] =
      .ok (.writeEntry 30 { valid := 1, chart := 2, care := 7, pattern := 0x87, pitch := 140 }) := by rfl

theorem test_decode_writeLayer :
    decodeRequest [0x21, 7, 3, 1, 0xDC, 1, 0, 2, 9, 0, 127] =
      .ok (.writeLayer 7 3
        { present := 1, interval := 0xDC, scale := 256, curve := 2, program := 9, low := 0, high := 127 }) := by rfl

theorem test_decode_resolve : decodeRequest [0x15, 1, 0x80, 0, 6] = .ok (.resolve 1 0x800006) := by rfl

theorem test_decode_maskAttention : decodeRequest [0x63, 0x20, 1] = .ok (.maskAttention 0x2001) := by rfl

theorem test_decode_writePlayer :
    decodeRequest ([0x31, 1] ++ [1, 0, 3, 7, 0xE8, 8, 1, 0x80, 0, 200, 0, 120, 4, 5, 1, 96, 0, 40, 1, 16] ++
        [1, 44, 8, 0]) =
      .ok (.writePlayer 1
        { enabled := 1, captureOnEnable := 0, chart := 3, layerSet := 7, transpose := 0xE8, settleMs := 8, gain := 384
          onThreshold := 200, offThreshold := 120, k := 4, deadBand := 5, mode := 1, bendDepth := 96, deadzone := 40
          drift := 1, reserve := 16 } (some ⟨300, 2048⟩)) := by rfl

theorem test_decode_refuses_unknown_code : decodeRequest [0x04] = .error .unknown := by rfl

theorem test_decode_refuses_length : decodeRequest [0x10] = .error .length := by rfl

theorem test_no_word_spells_a_command : decodeTableWord 8 1 = none := by decide

/-! ### Worked cases of the spec -/

/-- Worked case 'breath to level' of 03: stages 1 to 5. -/
theorem test_breath_to_level :
    normalize (pressure 1900 300) 384 = 2400 ∧
      curveValue ((Curve.default.set 4 520).set 5 700) 2400 = 644 ∧ smooth 500 644 4 = 536 ∧ smooth 623 644 4 = 628 ∧
      smooth 643 644 4 = 644 ∧ scaleLevel 536 192 = 402 := by decide

/-- Limit case 'curve at the top of the breath range' of 03. -/
theorem test_curve_top :
    curveValue ((Curve.default.set 7 1023).set 8 0) 4095 = 2 ∧ curveValue ((Curve.default.set 7 0).set 8 1023) 4095 = 1021 ∧
      curveValue ((Curve.default.set 7 600).set 8 601) 4095 = 601 := by decide

/-- Worked case 'bend' of 03. -/
theorem test_bend :
    bendOf 2300 2048 40 96 = 79 ∧ bendOf 1795 2048 40 96 = -79 ∧ bendOf 2088 2048 40 96 = 0 ∧
      bendOf 2089 2048 40 96 = 0 ∧ bendOf 3000 2048 40 96 = 200 := by decide

/-- Worked case 'pitch' of 03, the rows that agree with R42 (entry 24). -/
theorem test_fold :
    basePitch 62 1 (-2) = 72 ∧ layerPitch 72 (-24) = 48 ∧ basePitch 120 1 0 = 120 ∧ layerPitch 120 19 = 127 ∧
      basePitch 3 (-3) (-24) = 3 ∧ layerPitch 3 (-36) = 3 := by decide

/-- Entries 5, 12 and 20 of the resolution examples of 04. -/
def exampleTables : Tables :=
  { Tables.defaults with
    entries := ((Tables.defaults.entries.set 5 ⟨true, 0, 7, 7, 67⟩).set 12 ⟨true, 0, 0, 0, 48⟩).set 20 ⟨true, 0, 7, 7, 68⟩ }

/-- Resolution examples of 04: the tie goes to entry 5, and word 1, 2 to the catch-all. -/
theorem test_resolution :
    winner exampleTables.entries 0 7 = some 5 ∧ winner exampleTables.entries 0 6 = some 12 ∧
      winner exampleTables.entries 1 7 = none := by decide +kernel

/-- 'Normalization on write' of 04: the pattern is masked, the pitch clamped, the answer CLAMPED. -/
theorem test_writeEntry_normalizes :
    ((after (.writeEntry 0 30 { valid := 1, chart := 2, care := 7, pattern := 0x87, pitch := 140 }) play).map fun t =>
      (t.tables.entries.get 30, (t.station 0).response)) = some (⟨true, 2, 7, 7, 127⟩, [2]) := by decide +kernel

/-- The capture trace of 01: sums 5024 and 32696 store offset 314 and centre 2044. -/
theorem test_capture_stores_means :
    ((after .sweepCompletion { sweeping 318 2047 fun q =>
        { q with art := .capture, captureCount := 15, breathSum := 4706, lipSum := 30649 } with
          sweep := some { sweepOf 318 2047 with inCapture := ⟨true, false⟩ } }).map fun t =>
      ((t.player .p1).art, (t.player .p1).offset, (t.player .p1).centre)) = some (.silent, 314, 2044) := by decide +kernel

/-! ### One or two outcomes for each command -/

/-- At VREF, a count below it, unconnected, and below GND (R177). -/
theorem test_sweepStart_clips :
    ((after (.sweepStart 2500000 ⟨.voltage 2500000, .voltage 2499999⟩ ⟨.unconnected, .voltage (-1)⟩
      ⟨(false, false), (true, true)⟩) play).map fun t => t.sweep) =
      some (some ⟨⟨true, false⟩, ⟨false, false⟩, ⟨(4095, 4094), (0, 0)⟩⟩) := by decide +kernel

/-- Three fifths of VREF are 2457 counts; half of VREF is 2047 or 2048; at the higher VREF the four samples fall (R177). -/
theorem test_sweepStart_rescales :
    let sweepAt := fun vref => (after (.sweepStart vref ⟨.voltage 1500000, .voltage 1250000⟩
      ⟨.voltage 1250000, .voltage 1500000⟩ ⟨(false, false), (true, true)⟩) play).bind fun t => t.sweep.map fun w => w.samples
    sweepAt 2500000 = some ⟨(2457, 2047), (2048, 2457)⟩ ∧ sweepAt 3000000 = some ⟨(2047, 1706), (1707, 2048)⟩ := by
  decide +kernel

/-- The breath crosses the on-threshold: 500 - 300 = 200 (R68). -/
theorem test_sweep_attacks :
    ((after .sweepCompletion (sweeping 500 2048 id)).map fun t =>
      ((t.player .p1).art, t.slot .p1 0, (t.player .p1).resolved, t.startOrder)) =
      some (.sounding, some ⟨0, 1⟩, 60, [0]) := by decide +kernel

/-- One count short of the on-threshold (R68). -/
theorem test_sweep_stays_silent :
    ((after .sweepCompletion (sweeping 499 2048 id)).map fun t => (t.player .p1).art) = some .silent := by decide +kernel

theorem test_warmup_ends_at_eight :
    ((after (.warmupEnd .p1) (sweeping 0 0 fun q => { q with art := .warmup, warmup := 7 })).map fun t =>
      (t.player .p1).art) = some .capture := by decide +kernel

theorem test_faultEntry_at_64 :
    ((after (.faultEntry .p1 .breath) (sweeping 4095 2048 fun q => { q with breath := ⟨.normal, 63⟩ })).map fun t =>
      ((t.player .p1).breath, (t.player .p1).n, t.counters.sensorFaults, (t.station 0).attention)) =
      some (⟨.fault, 0⟩, 0, 1, 2) := by decide +kernel

theorem test_faultEntry_not_at_63 :
    ((after (.faultEntry .p1 .breath) (sweeping 4095 2048 fun q => { q with breath := ⟨.normal, 62⟩ })).map fun t =>
      (t.player .p1).breath) = some ⟨.normal, 62⟩ := by decide +kernel

theorem test_faultExit_at_64 :
    ((after (.faultExit .p1 .lip) (sweeping 300 1 fun q => { q with lip := ⟨.fault, 63⟩ })).map fun t =>
      ((t.player .p1).lip, t.counters.sensorFaults)) = some (⟨.normal, 0⟩, 0) := by decide +kernel

theorem test_driftStep_rises :
    ((after (.driftStep .p1) (sweeping 310 2048 fun q => { q with driftCount := 255, driftSum := 255 * 310 })).map fun t =>
      ((t.player .p1).offset, (t.player .p1).driftCount)) = some (301, 0) := by decide +kernel

/-- Keys 0 and 1 read closed at the first look: marks, no change yet (R18). -/
theorem test_scan_first_look :
    ((after (.scanStart 3 0) play).bind (after (.scanCompletion true true)) |>.map fun t =>
      ((t.player .p1).word, (t.player .p1).marks)) = some (0, 3) := by decide +kernel

/-- The second look confirms (R18), and contact 5 over 4 gives +2 (R20). -/
theorem test_scan_second_look :
    ((after (.scanCompletion true true)
        { play.modPlayer .p1 fun q => { q with marks := 0x18000003 } with
          scan := some ⟨⟨0x18000003, 0⟩, ⟨true, false⟩, ⟨false, false⟩⟩ }).map fun t =>
      ((t.player .p1).word, (t.player .p1).octave, (t.player .p1).held)) = some (3, 2, false) := by decide +kernel

/-- SCAN_START drives KD0 low first and KD7 low last (R178); the take-over mark stands until the completion (R24). -/
theorem test_scanStart_drives_and_takeOver_ends_mark :
    let s := play.modPlayer .p1 fun q => { q with takeOver := true }
    ((after (.scanStart 5 0) s).map fun t => (t.pins.kd.head?, t.pins.kd.getLast?, (t.player .p1).takeOver)) =
        some (some 0xFE, some 0x7F, true) ∧
      ((after (.scanStart 5 0) s).bind (after (.scanCompletion true true)) |>.map fun t =>
        ((t.player .p1).word, (t.player .p1).takeOver, t.pins.kd)) = some (5, false, [0xFF]) := by decide +kernel

theorem test_settleExpiry_retunes :
    ((after (.settleExpiry .p1) (sounding.modPlayer .p1 fun q => { q with settle := some 0, octave := 1 })).map fun t =>
      ((t.player .p1).settle, (t.voice 0).pitch)) = some (none, 72) := by decide +kernel

/-- A timer with time left beyond the next link event does not run out: the scan came first (R62). -/
theorem test_settleExpiry_not_before_its_time :
    let s := sounding.modPlayer .p1 fun q => { q with settle := some 172, octave := 1 }
    after (.settleExpiry .p1) s = some s := by decide +kernel

/-- The return timeout of 3000 ms has only begun (R99). -/
theorem test_reclaim_not_before_its_time :
    let s := sounding.modVoice 0 fun x => { x with state := .releasing, releaseTaken := true, timer := some 12000000 }
    after (.reclaim 0) s = some s := by decide +kernel

/-- A RECLAIM between slot and upstream slot: LSY fell after its first bit, LDO after bit 103 (R176). -/
theorem test_reclaim_ends_the_slot :
    let s := fun d => { sounding.modVoice 0 fun x => { x with state := .releasing, releaseTaken := true, timer := some d } with
      pins := { sounding.pins with ldo := [1], lsy := true } }
    (after (.reclaim 0) (s 0)).map (fun t => (t.pins.ldo, t.pins.lsy)) = some ([1], true) ∧
      (after (.reclaim 0) (s 103)).map (fun t => (t.pins.ldo, t.pins.lsy)) = some ([1], false) ∧
      (after (.reclaim 0) (s 104)).map (fun t => (t.pins.ldo, t.pins.lsy)) = some ([], false) := by decide +kernel

/-- An acknowledgement of an earlier use whose generation has come round sets nothing (R122, entry 29). -/
theorem test_stale_acknowledgement_sets_nothing :
    let s := sounding.modVoice 0 fun x => { x with state := .releasing, use := 17 }
    releaseTaken ⟨0, 1⟩ 1 s = s ∧ ((releaseTaken ⟨0, 1⟩ 17 s).voice 0).timer = some 12000000 := by decide +kernel

theorem test_reclaim_frees :
    ((after (.reclaim 0) (sounding.modVoice 0 fun x =>
        { x with state := .releasing, releaseTaken := true, timer := some 9 })).map fun t =>
      ((t.voice 0).state, (t.voice 0).gen, t.counters.reclaims, t.startOrder, t.freeList.getLast?)) =
      some (.free, 1, 1, [], some 0) := by decide +kernel

theorem test_frameSync_awards :
    ((after .frameSync { play with grant := none }).map fun t => t.grant) = some (some 0) := by decide +kernel

/-- A START in the renderer's slot: kind 1, toggle opposite to the echo, voice 0 generation 1, pitch 60 (R131). -/
theorem test_downstream_shows_start :
    ((after (.downstreamSlot 0) sounding).map fun t => (t.station 0).sent.take 5) =
      some [0x40, 0x30, 0x00, 0x10, 60] := by decide +kernel

/-- LDO and LSY are low again at the end of the upstream slot (R176). -/
theorem test_downstream_slot_ends :
    ((after (.downstreamSlot 0) play).map fun t => (t.pins.ldo.length, t.pins.lsy)) = some (13, true) ∧
      ((after (.downstreamSlot 0) play).bind (after (.upstreamSlot 0 [] [])) |>.map fun t => (t.pins.ldo, t.pins.lsy)) =
        some ([], false) := by decide +kernel

/-- Two READY slots confirm a station (R136). -/
theorem test_upstream_confirms :
    ((after (.upstreamSlot 1 [slotOf 0x10 0 0] []) play).bind (after (.upstreamSlot 1 [slotOf 0x10 0 0] [])) |>.map
      fun t => (t.station 1).code) = some .ready := by decide +kernel

/-- READ-PART arrives as one END byte with a new toggle (R144). -/
theorem test_upstream_request :
    ((after (.upstreamSlot 0 [slotOf 0x18 0x40 0xA0] [.message]) play).map fun t => (t.station 0).response) =
      some [0, 0, 30] := by decide +kernel

theorem test_stationLost_at_16 :
    ((after (.stationLost 0) (play.modStation 0 fun x => { x with badRun := 15 })).map fun t =>
      ((t.station 0).code, t.grant)) = some (.absent, none) := by decide +kernel

theorem test_readStatus : ((after (.readStatus 2) play).map fun t => (t.station 2).response.take 9) =
    some [0, 1, 0, 0, 1, 15, 15, 15, 32] := by decide +kernel

theorem test_readCounters : ((after (.readCounters 1) { play with counters := { Counters.zero with overflows := 258 } }).map
    fun t => (t.station 1).response.drop 13 |>.take 2) = some [1, 2] := by decide +kernel

theorem test_clearCounters_needs_grant :
    ((after (.clearCounters 1) play).map fun t => (t.station 1).response) = some [0x10] := by decide +kernel

theorem test_clearCounters :
    ((after (.clearCounters 0) { play with counters := { Counters.zero with steals := 9 } }).map fun t =>
      (t.counters, (t.station 0).response)) = some (Counters.zero, [0]) := by decide +kernel

theorem test_readEntry : ((after (.readEntry 0 5) { play with tables := exampleTables }).map fun t =>
    (t.station 0).response) = some [0, 1, 0, 0, 0, 7, 0, 0, 7, 67] := by decide +kernel

theorem test_readEntry_bad_index : ((after (.readEntry 0 192) play).map fun t => (t.station 0).response) =
    some [0x12] := by decide +kernel

theorem test_clearEntry :
    ((after (.clearEntry 0 5) { play with tables := exampleTables }).map fun t => t.tables.entries.get 5) =
      some ⟨false, 0, 0, 0, 0⟩ := by decide +kernel

theorem test_chart_written_and_read :
    ((after (.writeChart 0 3 1 127) play).bind (after (.readChart 0 3)) |>.map fun t => (t.station 0).response) =
      some [0, 1, 127] := by decide +kernel

/-- Note 3 of the resolution examples: RESOLVE of word 1, 2 answers 48, source 12, specificity 0. -/
theorem test_resolve : ((after (.resolve 0 0 6) { play with tables := exampleTables }).map fun t =>
    (t.station 0).response) = some [0, 48, 12, 0] := by decide +kernel

theorem test_layer_written_and_read :
    ((after (.writeLayer 0 7 3 { present := 1, interval := 0xDB, scale := 257, curve := 3, program := 9, low := 1, high := 2 })
        play).map fun t => ((t.tables.layers.get 7).get 3, (t.station 0).response)) =
      some (⟨true, -36, 256, 3, 9, 1, 2⟩, [2]) := by decide +kernel

theorem test_readLayer : ((after (.readLayer 0 0 0) play).map fun t => (t.station 0).response) =
    some [0, 1, 0, 1, 0, 0, 0, 0, 127] := by decide +kernel

theorem test_curve_written_and_read :
    ((after (.writeCurve 0 2 (Tab.const 9 0x0201)) play).bind (after (.readCurve 0 2)) |>.map fun t =>
      (t.station 0).response.take 3) = some [0, 2, 1] := by decide +kernel

theorem test_readPlayer : ((after (.readPlayer 0 1) play).map fun t => (t.station 0).response.drop 21) =
    some [1, 44, 8, 0] := by decide +kernel

/-- The off-threshold is brought below the clamped on-threshold (R151). -/
theorem test_writePlayer_clamps_thresholds :
    ((after (.writePlayer 0 2 { (Settings.default false).raw with onThreshold := 0, offThreshold := 500 } none) play).map
      fun t => ((t.settings .p2).onThreshold, (t.settings .p2).offThreshold, (t.station 0).response)) =
      some (1, 0, [2]) := by decide +kernel

theorem test_writePlayer_enables :
    ((after (.writePlayer 0 2 (Settings.default true).raw none) play).map fun t =>
      ((t.player .p2).art, (t.player .p2).takeOver, (t.station 0).response)) = some (.warmup, true, [0]) := by
  decide +kernel

theorem test_zeroCapture :
    ((after (.zeroCapture 0 1) play).map fun t => ((t.player .p1).art, (t.station 0).response)) =
      some (.capture, [1]) := by decide +kernel

theorem test_zeroCapture_busy :
    ((after (.zeroCapture 0 2) play).map fun t => (t.station 0).response) = some [0x11] := by decide +kernel

theorem test_part_written_and_read :
    ((after (.writePart 0 3 51) play).bind (after (.readPart 0)) |>.map fun t => (t.station 0).response) =
      some [0, 3, 50] := by decide +kernel

theorem test_writePart_busy_while_a_voice_sounds :
    ((after (.writePart 0 3 50) sounding).map fun t => (t.tables.renderer, (t.station 0).response)) =
      some (0, [0x11]) := by decide +kernel

theorem test_route_written_and_read :
    ((after (.writeRoute 0 1 2) play).bind (after (.readRoute 0 1)) |>.map fun t => (t.station 0).response) =
      some [0, 2] := by decide +kernel

theorem test_route_gain_appends_sync :
    ((after (.writeRoute 0 1 1) (play.modStation 1 fun x => { x with code := .ready })).map fun t =>
      (t.station 1).waiting) = some [.sync] := by decide +kernel

theorem test_readVoice : ((after (.readVoice 0 0) sounding).map fun t => (t.station 0).response.take 7) =
    some [0, 1, 1, 1, 0, 60, 0] := by decide +kernel

theorem test_readPool : ((after (.readPool 0) sounding).map fun t => (t.station 0).response.take 3) =
    some [0, 0x44, 0] := by decide +kernel

theorem test_attention_taken_lowest_first :
    ((after (.takeAttention 0) (play.modStation 0 fun x => { x with attention := 0x2042, masked := 2 })).map fun t =>
      ((t.station 0).response, (t.station 0).attention)) = some ([0, 6], 0x2002) := by decide +kernel

theorem test_takeAttention_none : ((after (.takeAttention 0) play).map fun t => (t.station 0).response) =
    some [0, 0xFF] := by decide +kernel

theorem test_readAttention : ((after (.readAttention 0) (play.modStation 0 fun x => { x with attention := 0x2042 })).map
    fun t => (t.station 0).response) = some [0, 0x20, 0x42, 0x3F, 0xFF] := by decide +kernel

theorem test_clearAttention_clamps :
    ((after (.clearAttention 0 0x4040) (play.modStation 0 fun x => { x with attention := 0x2042 })).map fun t =>
      ((t.station 0).attention, (t.station 0).response)) = some (0x2002, [2]) := by decide +kernel

theorem test_unmask_then_mask :
    ((after (.unmaskAttention 0 0x0003) play).bind (after (.maskAttention 0 0x0001)) |>.map fun t =>
      (t.station 0).masked) = some 0x3FFD := by decide +kernel

theorem test_signal_absent_and_present :
    ((after (.signal 0 1) play).map fun t => (t.station 0).response) = some [0, 0] ∧
      ((after (.signal 0 0) play).map fun t => ((t.station 0).response, (t.station 0).attention)) =
        some ([0, 1], 0x2000) := by decide +kernel

theorem test_storeImage : ((after (.storeImage 0) play).map fun t =>
    (t.partState, t.store, t.storeFor, (t.station 0).response)) =
      some (.storing, some ⟨.erase, 0⟩, some 0, [1]) := by decide +kernel

theorem test_storeStepDone_ends :
    ((after .storeStepDone { play with partState := .storing, store := some ⟨.header, 0⟩, storeFor := some 0 }).map
      fun t => (t.partState, (t.station 0).attention, Memory.read t.flash 0, Memory.read t.flash 4)) =
      some (.run, 0x200, 0x5A, 0x46) := by decide +kernel

theorem test_storeBusyLimit_fails :
    ((after .storeBusyLimit { play with partState := .storing, store := some ⟨.page 3, 0⟩, storeFor := some 0 }).map
      fun t => (t.partState, t.store, (t.station 0).attention)) = some (.run, none, 0x400) := by decide +kernel

theorem test_loadImage_disables :
    ((after (.loadImage 0) sounding).map fun t =>
      (t.partState, (t.player .p1).art, (t.voice 0).state, t.startOrder)) = some (.loading, .disabled, .free, []) := by
  decide +kernel

/-- The header read selects the memory until its answer is in, or a restart ends it (R167, R179). -/
theorem test_loadBusyWaitEnd :
    ((after .loadBusyWaitEnd State.reset).map fun t => (t.load, t.port, t.pins.msl, t.pins.mck)) =
        some (some .header, [⟨[3, 0, 0, 0], 64⟩], false, true) ∧
      ((after .loadBusyWaitEnd State.reset).bind (after .powerOn) |>.map fun t => (t.pins.msl, t.pins.mck)) =
        some (true, false) := by decide +kernel

/-- An erased memory has no valid header: the defaults, with player 1 enabled (R171, R172). -/
theorem test_load_of_erased_memory_takes_defaults :
    ((after (.loadHeaderRead .stored) { State.reset with load := some .header }).map fun t =>
      (t.partState, t.tables, (t.player .p1).art)) = some (.run, Tables.defaults, .warmup) := by decide +kernel

theorem test_loadBusyLimit_takes_defaults :
    ((after .loadBusyLimit State.reset).map fun t => (t.partState, t.load)) = some (.run, none) := by decide +kernel

theorem test_loadBodyRead_refuses_sum :
    ((after (.loadBodyRead .stored) { State.reset with load := some (.body 0) }).map fun t =>
      (t.partState, t.tables.returnSteps)) = some (.run, 30) := by decide +kernel

theorem test_restart_waits : ((after (.restart 0) play).map fun t =>
    ((t.station 0).restartWaits, (t.station 0).response, t.partState)) = some (true, [1], .run) := by decide +kernel

theorem test_restartRequest : ((after .restartRequest play).map fun t => (t.cause, t.partState, t.grant)) =
    some (.restartRequest, .loading, none) := by decide +kernel

theorem test_powerOn : ((after .powerOn play).map fun t => t) = some State.reset := by decide +kernel

theorem test_reset_of_one_microsecond :
    ((after (.resetAsserted 1000) play).bind (after .resetLine) |>.map fun t => (t.cause, t.partState)) =
      some (.resetLine, .loading) := by decide +kernel

theorem test_reset_of_999_ns : ((after (.resetAsserted 999) play).map fun t => t.partState) = some .run := by
  decide +kernel

/-! ### Witnesses: states and operands that meet the hypotheses of the statements, clause by clause -/

theorem play_pool : PoolInv play := ⟨by decide +kernel, by decide +kernel⟩

theorem play_note : NoteInv play := by
  have slots : ∀ L, play.slot .p1 L = none ∧ play.slot .p2 L = none := by decide +kernel
  have voices : ∀ v, (play.voice v).state ≠ .active := by decide +kernel
  intro p
  refine ⟨by cases p <;> decide +kernel, ?_, fun v h _ => absurd h (voices v)⟩
  intro L i h
  cases p with
  | p1 => rw [(slots L).1] at h; cases h
  | p2 => rw [(slots L).2] at h; cases h

theorem play_timer : TimerInv play :=
  ⟨fun p => by cases p <;> decide +kernel, by decide +kernel⟩

theorem play_idle : IdlePoolInv play := fun _ => by decide +kernel

theorem play_part : PartInv play :=
  ⟨fun p => by cases p <;> decide +kernel, (fun h => nomatch h), by decide +kernel, by decide +kernel,
    ⟨(fun h => nomatch h), by rintro (h | ⟨_, h⟩) <;> cases h⟩, rfl⟩

theorem play_absent : AbsentInv play := by
  have h : ∀ st, (play.station st).code = .absent →
    (play.station st).waiting = [] ∧ (play.station st).delivery = none ∧ (play.station st).editRequest = false ∧
      (play.station st).editCandidate = none := by decide +kernel
  exact h

theorem play_grant : GrantInv play := by
  intro st h
  have : st = 0 := (Option.some.inj h).symm
  subst this
  decide +kernel

theorem play_queue : QueueInv play := by
  have h : ∀ st, (play.station st).waiting = [] := by decide +kernel
  intro st v use
  simp [useKinds, h st, useShapes]

theorem play_tables : TablesInRange play.tables := by
  refine ⟨by decide +kernel, by decide +kernel, by decide +kernel, by decide +kernel, ?_, by decide +kernel, by decide +kernel⟩
  intro p
  cases p <;> decide +kernel

theorem play_players : ∀ p, PlayerInRange (play.player p) := by
  intro p
  cases p <;> (unfold PlayerInRange; and_intros <;> decide +kernel)

theorem play_voices : ∀ v, VoiceInRange (play.voice v) := by
  have h : ∀ v, play.voice v = Voice.reset := by decide +kernel
  intro v
  rw [h v]
  unfold VoiceInRange
  and_intros <;> decide +kernel

theorem play_link : LinkInv play := by
  refine ⟨?_, by unfold CountersInRange; decide +kernel, by decide +kernel⟩
  have h : ∀ st, (play.station st).badRun ≤ 16 ∧ (play.station st).request.length ≤ 40 ∧
      (play.station st).response.length ≤ 43 ∧ ((play.station st).lane = .sending →
        (play.station st).position < (play.station st).response.length) ∧ (play.station st).yield ≤ 2 ∧
      ((play.station st).sent = [] ∨ (play.station st).sent.length = 13) := by decide +kernel
  exact h

/-- `play` keeps every promise. -/
theorem play_safe : play.Safe :=
  ⟨play_pool, play_note, play_timer, play_idle, play_part, (fun h => nomatch h), play_absent, play_grant, play_queue,
    ⟨play_tables, play_players, play_voices⟩, play_link, by unfold FlashInv; decide +kernel⟩

/-- `play` with every voice in use: RELEASING for player 2. -/
def full : State :=
  { play with
    voices := Tab.const 32 { Voice.reset with state := .releasing, player := .p2 }, freeList := [], startOrder := upTo 32 }

theorem witness_StepRunsFrontCommand :
    { play with pending := [.frameSync, .powerOn] }.pending = .frameSync :: [.powerOn] ∧ play.pending = [] :=
  ⟨rfl, rfl⟩

theorem witness_HeldPartWaits :
    let s := { play with resetHeld := true }
    s.resetHeld = true ∧ Instr.frameSync ≠ .powerOn ∧ (∀ n, Instr.frameSync ≠ .resetAsserted n) ∧
      Instr.frameSync ≠ .resetLine := ⟨rfl, nofun, nofun, nofun⟩

theorem witness_RestartReturnsValues :
    play.resetHeld = false ∧ { play with resetHeld := true }.resetHeld = true ∧ 999 < 1000 ∧ 1000 ≤ 1000 := by decide

theorem witness_CatalogueCodesAndLengths : decodeRequest [0x01] = .ok .readStatus := by rfl

theorem play_range : RangeInv play := ⟨play_tables, play_players, play_voices⟩

theorem witness_ImageHoldsTables :
    RangeInv play ∧ Memory.wf [(3, 7)] = true ∧ (9 < 10 ∨ 10 + [(1 : Byte), 2].length ≤ 9) ∧
      (12 < 10 ∨ 10 + [(1 : Byte), 2].length ≤ 12) := ⟨play_range, by decide⟩

/-- A body of FFh throughout is brought into range: indices at their highest, fields at their nearest value (R151,
R171). -/
theorem test_load_brings_into_range :
    let t := tablesOfBody (List.replicate 2118 0xFF)
    let x := t.settings.p2
    ((t.entries.get 191).valid, (t.entries.get 191).chart, (t.entries.get 191).pitch) = (true, 3, 127) ∧
      (x.chart, x.layerSet, x.transpose, x.onThreshold, x.offThreshold, x.k, x.reserve) =
        (3, 7, -1, 4095, 4094, 16, 16) ∧
      (t.renderer, t.returnSteps, t.routes.get 3) = (3, 50, ⟨true, true⟩) := by decide +kernel

/-- The clauses of `Reads` at their ends: GND, one microvolt above it, one below VREF, VREF. -/
theorem witness_SweepStartFixesChannels :
    play.resetHeld = false ∧ (0 : Nat) < 2500000 ∧ Reads 2500000 true (.voltage 0) 0 ∧ Reads 2500000 false (.voltage 1) 0 ∧
      Reads 2500000 true (.voltage 1) 1 ∧ Reads 2500000 false (.voltage 2499999) 4094 ∧
      Reads 2500000 true (.voltage 2499999) 4095 ∧ Reads 2500000 false (.voltage 2500000) 4095 :=
  ⟨rfl, by decide, by simp [Reads], by simp [Reads], by simp [Reads], by simp [Reads], by simp [Reads],
    by simp [Reads]⟩

theorem witness_SweepTakesPlayersInOrder :
    let s := sweeping 500 2048 id
    s.resetHeld = false ∧ s.sweep = some (sweepOf 500 2048) ∧ (sweepOf 500 2048).set.get .p2 = false ∧
      (s.player .p2).art = .disabled := by decide +kernel

theorem witness_WarmupCountsEightSweeps :
    let s := fun (n : Nat) => sweeping 0 0 fun q => { q with art := .warmup, warmup := n }
    (s 6).resetHeld = false ∧ (s 6).sweep = some (sweepOf 0 0) ∧ (sweepOf 0 0).set.get .p1 = true ∧
      (sweepOf 0 0).set.get (Player.other .p1) = false ∧ ((s 6).player .p1).art = .warmup ∧
      ((s 6).player .p1).warmup + 1 < 8 ∧ 8 ≤ ((s 7).player .p1).warmup + 1 ∧ ((s 7).player .p1).art = .warmup ∧
      ((s 7).settings .p1).captureOnEnable = true ∧
      ({ s 7 with tables := { (s 7).tables with
        settings := ⟨{ Settings.default true with captureOnEnable := false }, Settings.default false⟩ } }.settings
          .p1).captureOnEnable = false := by decide +kernel

theorem witness_CaptureTakesSixteenSweeps :
    let s := fun (n : Nat) => sweeping 318 2047 fun q => { q with art := .capture, captureCount := n }
    let w := { sweepOf 318 2047 with inCapture := ⟨true, false⟩ }
    (s 15).resetHeld = false ∧ (s 15).sweep = some (sweepOf 318 2047) ∧ (sweepOf 318 2047).inCapture.get .p1 = false ∧
      w.set.get .p1 = true ∧ w.set.get (Player.other .p1) = false ∧ w.inCapture.get .p1 = true ∧
      ((s 14).player .p1).art = .capture ∧ ((s 14).player .p1).captureCount + 1 < 16 ∧
      16 ≤ ((s 15).player .p1).captureCount + 1 := by decide +kernel

theorem witness_FaultRunsOfSixtyFour :
    let opposing := fun (c : Channel) (x : Sample) => if c.state = .normal then x = 0 ∨ x = 4095 else x ≠ 0 ∧ x ≠ 4095
    ¬ opposing ⟨.normal, 5⟩ 4094 ∧ ¬ opposing ⟨.fault, 5⟩ 4095 ∧ opposing ⟨.normal, 62⟩ 0 ∧ 62 + 1 < 64 ∧
      opposing ⟨.normal, 63⟩ 4095 ∧ opposing ⟨.fault, 63⟩ 1 ∧ 64 ≤ 63 + 1 := by decide

theorem witness_FaultRowsAreTheSweep :
    let s := sweeping 4095 1 fun q => { q with breath := ⟨.normal, 63⟩, lip := ⟨.fault, 63⟩ }
    s.resetHeld = false ∧ s.sweep = some (sweepOf 4095 1) ∧ (sweepOf 4095 1).set.get .p1 = true ∧
      (s.player .p1).art ∈ [ArtState.capture, .silent, .sounding, .quiet] ∧
      64 ≤ ((s.player .p1).channel .breath).run + 1 ∧ ((s.player .p1).channel .breath).state = .normal ∧
      ((sweepOf 4095 1).samples.get .p1).1 = 4095 ∧ 64 ≤ ((s.player .p1).channel .lip).run + 1 ∧
      ((s.player .p1).channel .lip).state = .fault ∧ ((sweepOf 4095 1).samples.get .p1).2 ≠ 0 ∧
      ((sweepOf 4095 1).samples.get .p1).2 ≠ 4095 := by decide +kernel

/-- Block means 300, 396, 204, 397 and 203 beside offset 300. -/
theorem witness_DriftMovesOneCount :
    let s := fun (sum : Nat) => sweeping 300 2048 fun q => { q with driftCount := 255, driftSum := sum }
    let m := fun (sum : Nat) => (((s sum).player .p1).driftSum + 300) / 256
    (s 0).resetHeld = false ∧ (s 0).sweep = some (sweepOf 300 2048) ∧ ((s 0).player .p1).art = .silent ∧
      ((s 0).settings .p1).drift = true ∧ ((s 0).player .p1).breath.state = .normal ∧
      ((s 0).player .p1).driftCount = 255 ∧ ((300 : Sample) ≠ 0 ∧ (300 : Sample) ≠ 4095) ∧
      min 4095 ((300 - ((s 0).player .p1).offset) * ((s 0).settings .p1).gain / 256) < ((s 0).settings .p1).onThreshold ∧
      m (255 * 300) = 300 ∧ m (396 * 256 - 300) = 396 ∧ m (204 * 256 - 300) = 204 ∧ m (397 * 256 - 300) = 397 ∧
      m (203 * 256 - 300) = 203 := by decide +kernel

/-- A block that gathers, at its first and its last but one sample, and one that an attack clears. -/
theorem witness_DriftMovesOneCount_gathers :
    let s := fun (a : ArtState) (k : Nat) => sweeping 300 2048 fun q => { q with art := a, driftCount := k }
    let runs := fun (t : State) => (t.player .p1).art = .silent ∧ (t.player .p1).breath.state = .normal
    ∀ k ∈ [0, 254], ((s .silent k).settings .p1).drift = true ∧ ((s .silent k).player .p1).driftCount + 1 < 256 ∧
      ((s .silent k).player .p1).art ∈ [ArtState.silent, .sounding, .quiet] ∧
      ((after .sweepCompletion (s .silent k)).map fun t => decide (runs t)) = some true ∧
      ((after .sweepCompletion { s .silent k with sweep := some (sweepOf 500 2048) }).map fun t =>
        ((t.player .p1).art, (t.player .p1).driftCount)) = some (.sounding, 0) := by decide +kernel

theorem witness_SweepDecidesByThresholds :
    let s := fun (a : ArtState) => sweeping 500 2048 fun q => { q with art := a }
    ∀ a ∈ [ArtState.silent, .sounding, .quiet], (s a).resetHeld = false ∧ (s a).sweep = some (sweepOf 500 2048) ∧
      (sweepOf 500 2048).set.get .p1 = true ∧ ((s a).player .p1).art = a := by decide +kernel

theorem witness_AttackBuildsNote :
    play.Safe ∧ (play.player .p1).art = .silent ∧ play.rendererPresent = true ∧ (play.layer .p1 0).present = true ∧
      (play.layer .p1 0).low ≤ play.playerBase .p1 ∧ play.playerBase .p1 ≤ (play.layer .p1 0).high ∧
      4 ≤ play.freeList.length ∧ (play.layer .p1 1).present = false ∧ (attack .p1 play).slot .p1 0 = some ⟨0, 1⟩ :=
  ⟨play_safe, by decide +kernel⟩

theorem witness_LevelStagesStayInRange :
    511 < 512 ∧ 0 < 512 ∧ 1 ≤ 1 ∧ 16 ≤ 16 ∧ 500 < 501 ∧ 256 ≤ 256 ∧ 1023 ≤ 1023 := by decide

theorem witness_FoldKeepsPitchClass :
    ((0 : Int) ≤ 0 ∧ (127 : Int) ≤ 127) ∧ (-1 : Int) < 0 ∧ (127 : Int) < 128 ∧ ((-60 : Int) ≤ -60 ∧ (187 : Int) ≤ 187) ∧
      (127 ≤ 127 ∧ (3 : Int) ≤ 3 ∧ (-24 : Int) ≤ -24 ∧ (-36 : Int) ≤ -36 ∧ (36 : Int) ≤ 36) := by decide

theorem witness_BendIsSymmetric : 40 ≤ 40 ∧ 40 < 41 ∧ 2048 ≤ 2048 := by decide

theorem witness_ReportsCrossTheDeadBand :
    let x := fun (level last : Nat) => (play.modVoice 0 fun y => { y with level := level, lastLevel := last }).voice 0
    let q := fun (a : ArtState) (b l : Int) => (play.modPlayer .p1 fun q => { q with art := a, bend := b, lastBend := l }).player .p1
    (x 14 10).lastLevel + 4 ≤ (x 14 10).level ∧ ((x 0 1).level = 0 ∧ (x 0 1).level ≠ (x 0 1).lastLevel) ∧
      ¬ ((x 13 10).lastLevel + 4 ≤ (x 13 10).level ∨ (x 13 10).level + 4 ≤ (x 13 10).lastLevel) ∧
      ¬ (((x 13 10).level = 0 ∨ (x 13 10).level = 1023) ∧ (x 13 10).level ≠ (x 13 10).lastLevel) ∧
      (q .sounding 5 3).art = .sounding ∧ 2 ≤ (q .sounding 5 3).bend - (q .sounding 5 3).lastBend ∧
      ((q .sounding 200 199).bend = 200 ∧ (q .sounding 200 199).bend ≠ (q .sounding 200 199).lastBend) ∧
      (q .silent 5 3).art ≠ .sounding ∧
      ¬ (2 ≤ (q .sounding 4 3).bend - (q .sounding 4 3).lastBend ∨ 2 ≤ (q .sounding 4 3).lastBend - (q .sounding 4 3).bend) ∧
      (q .sounding 4 3).bend ≠ 0 := by decide +kernel

theorem witness_ScanStartFixesReadings : play.resetHeld = false ∧ 30 < 31 := by decide

/-- A scan whose reading of player 1 differs in inputs 0 (marked), 1 (not marked) and contact 6; player 2 is disabled. -/
def scanning : State :=
  { play.modPlayer .p1 fun q => { q with marks := 0x20000001, debounced := 4 } with
    scan := some ⟨⟨0x20000007, 0⟩, ⟨true, false⟩, ⟨false, false⟩⟩ }

theorem witness_ScanLooksTwice :
    let q := scanning.player .p1
    let r : BitVec 31 := 0x20000007
    scanning.resetHeld = false ∧ scanning.scan = some ⟨⟨r, 0⟩, ⟨true, false⟩, ⟨false, false⟩⟩ ∧
      r.getLsbD 2 = q.debounced.getLsbD 2 ∧ (r.getLsbD 1 ≠ q.debounced.getLsbD 1 ∧ q.marks.getLsbD 1 = false) ∧
      (r.getLsbD 0 ≠ q.debounced.getLsbD 0 ∧ q.marks.getLsbD 0 = true) ∧
      ((after (.scanCompletion true true) scanning).map fun t =>
        ((t.player .p1).debounced.getLsbD 29, (t.player .p2).debounced)) = some (true, 0) ∧
      (∀ p : Bool, (Pair.both false).get (if p then .p1 else .p2) = false ∨
        (Pair.both true).get (if p then .p1 else .p2) = true) := by decide +kernel

theorem witness_FingeringChangeRestartsTimer :
    let s := { sounding with scan := some ⟨⟨1, 0⟩, ⟨true, false⟩, ⟨false, false⟩⟩ }.modPlayer .p1 fun q =>
      { q with marks := 1 }
    s.resetHeld = false ∧ s.scan = some ⟨⟨1, 0⟩, ⟨true, false⟩, ⟨false, false⟩⟩ ∧ (s.player .p1).art = .sounding ∧
      1 ≤ (s.settings .p1).settleMs ∧
      ((after (.scanCompletion true true) s).map fun t => decide ((t.player .p1).word ≠ (s.player .p1).word)) = some true ∧
      ((after (.scanCompletion true true) (s.modPlayer .p1 fun q => { q with marks := 0 })).map fun t =>
        decide ((t.player .p1).word = (s.player .p1).word ∧ (t.player .p1).octave = (s.player .p1).octave)) = some true ∧
      (play.player .p1).art ≠ .sounding := by decide +kernel

/-- Beside a fingering change: a hold let go alone, both together, neither, and a window of 0. -/
theorem witness_FingeringChangeRestartsTimer_handed :
    let before := fun (r : BitVec 31) => play.modPlayer .p1 fun q =>
      { q with debounced := 0x40000000, marks := 0x40000001 ^^^ r, held := true }
    let q' := fun (r : BitVec 31) => ((before 0).modPlayer .p1 (PlayerState.scanned false r)).player .p1
    let z := sounding.modTables fun t => { t with settings := Pair.both { Settings.default true with settleMs := 0 } }
    ((before 0).player .p1).held = true ∧ ((q' 0).held = false ∧ (q' 0).word = 0 ∧ (q' 0).octave = 0) ∧
      ((q' 1).held = false ∧ (q' 1).word ≠ 0) ∧ ((q' 0x40000001).held = true ∧ (q' 0x40000001).word ≠ 0) ∧
      ((q' 0x40000000).held = true ∧ (q' 0x40000000).word = 0) ∧ (z.player .p1).art = .sounding ∧
      (z.settings .p1).settleMs = 0 ∧ (z.player .p1).note ≠ none := by decide +kernel

theorem witness_SettleExpiryResolves :
    let s := sounding.modPlayer .p1 fun q => { q with settle := some 0 }
    let r : NoteRecord := ⟨60, none, (Tab.const 4 none).set 0 (some ⟨0, 1⟩)⟩
    s.resetHeld = false ∧ (s.player .p1).settle = some 0 ∧ (s.player .p1).art = .sounding ∧
      (s.player .p1).note = some r ∧ s.playerBase .p1 = r.base ∧ (play.player .p1).settle = none ∧
      (let u := s.modPlayer .p1 fun q => { q with octave := 1 }
       (u.player .p1).note = some r ∧ u.playerBase .p1 ≠ r.base) ∧ s.bitTime = 0 ∧
      0 ≤ min (if 0 % 250 < 171 then 171 - 0 % 250 else 250 - 0 % 250) (1000 - 0) ∧
      min (if 999 % 250 < 171 then 171 - 999 % 250 else 250 - 999 % 250) (1000 - 999) < 2 := by decide +kernel

theorem witness_WinnerIsMostSpecific :
    winner exampleTables.entries 0 7 = some 5 ∧ winner exampleTables.entries 1 7 = none ∧
      ((exampleTables.entries.get 20).valid = true ∧ (exampleTables.entries.get 20).chart = 0 ∧
        (7 : BitVec 24) &&& (exampleTables.entries.get 20).care = (exampleTables.entries.get 20).pattern) := by
  decide +kernel

theorem witness_FallbackByStateAndChart :
    let base := { play with tables := { play.tables with charts := Tab.const 4 ⟨.base, 61⟩ } }
    (∀ i, (play.tables.entries.get i).valid = true → (play.tables.entries.get i).chart = 0 →
      (play.player .p1).word &&& (play.tables.entries.get i).care ≠ (play.tables.entries.get i).pattern) ∧
      (play.tables.charts.get 0).fallback = .hold ∧ (play.player .p1).art ≠ .sounding ∧
      (sounding.player .p1).art = .sounding ∧ sounding.tables = play.tables ∧
      (base.tables.charts.get 0).fallback = .base ∧ play.serves := by
  refine ⟨by decide +kernel, by decide +kernel, by decide +kernel, by decide +kernel, by decide +kernel,
    by decide +kernel, by decide +kernel, by decide +kernel⟩

theorem full_pool : PoolInv full := ⟨by decide +kernel, by decide +kernel⟩

theorem witness_AllocationStartsStealsOrDrops :
    play.rendererPresent = true ∧ full.rendererPresent = true ∧ PoolInv play ∧ play.freeList = 0 :: (upTo 32).drop 1 ∧ PoolInv full ∧ full.freeList = [] ∧
      full.victim .p1 = some 0 ∧
      (let own := { full with voices := Tab.const 32 { Voice.reset with state := .active, player := .p1 } }
       PoolInv own ∧ own.freeList = [] ∧ own.victim .p1 = none) :=
  ⟨by decide +kernel, by decide +kernel, play_pool, by decide +kernel, full_pool, by decide +kernel, by decide +kernel,
    ⟨by decide +kernel, by decide +kernel⟩, by decide +kernel, by decide +kernel⟩

theorem sounding_note : NoteInv sounding := by
  have slots : ∀ L, sounding.slot .p1 L = (if L = 0 then some ⟨0, 1⟩ else none) ∧ sounding.slot .p2 L = none := by
    decide +kernel
  have voice : (sounding.voice 0).state = .active ∧ (sounding.voice 0).player = .p1 ∧ (sounding.voice 0).layer = 0 ∧
    (sounding.voice 0).gen = 1 := by decide +kernel
  have others : ∀ v, (sounding.voice v).state = .active → v = 0 := by decide +kernel
  intro p
  refine ⟨by cases p <;> decide +kernel, ?_, ?_⟩
  · intro L i h
    cases p with
    | p1 =>
      rw [(slots L).1] at h
      split at h
      · cases h; subst_vars; exact voice
      · cases h
    | p2 => rw [(slots L).2] at h; cases h
  · intro v hv hp
    have := others v hv
    subst this
    rw [voice.2.1] at hp
    subst hp
    rw [voice.2.2.1, voice.2.2.2, (slots 0).1]
    rfl

/-- Notes are right where no voice is ACTIVE and no player SOUNDING. -/
theorem note_of_silence (s : State) (arts : ∀ p, (s.player p).note = none ∧ (s.player p).art ≠ .sounding)
    (voices : ∀ v, (s.voice v).state ≠ .active) : NoteInv s := by
  intro p
  refine ⟨by simp [arts p], ?_, fun v h _ => absurd h (voices v)⟩
  intro L i h
  simp [State.slot, (arts p).1] at h

/-- Player 2 in player 1's place in `sounding`: its voice 0 is ACTIVE, player 1 has none. -/
def rival : State :=
  { sounding.modVoice 0 fun x => { x with player := .p2 } with
    players := ⟨sounding.player .p2, sounding.player .p1⟩, freeList := [] }

theorem rival_note : NoteInv rival := by
  have slots : ∀ L, rival.slot .p2 L = (if L = 0 then some ⟨0, 1⟩ else none) ∧ rival.slot .p1 L = none := by
    decide +kernel
  have voice : (rival.voice 0).state = .active ∧ (rival.voice 0).player = .p2 ∧ (rival.voice 0).layer = 0 ∧
    (rival.voice 0).gen = 1 := by decide +kernel
  have others : ∀ v, (rival.voice v).state = .active → v = 0 := by decide +kernel
  intro p
  refine ⟨by cases p <;> decide +kernel, ?_, ?_⟩
  · intro L i h
    cases p with
    | p2 =>
      rw [(slots L).1] at h
      split at h
      · cases h; subst_vars; exact voice
      · cases h
    | p1 => rw [(slots L).2] at h; cases h
  · intro v hv hp
    have := others v hv
    subst this
    rw [voice.2.1] at hp
    subst hp
    rw [voice.2.2.1, voice.2.2.2, (slots 0).1]
    rfl

theorem witness_VictimSearchFollowsOrder :
    let held := { full with voices := Tab.const 32 { Voice.reset with state := .held, player := .p2 } }
    (NoteInv full ∧ full.victim .p1 = some 0) ∧ (NoteInv held ∧ held.victim .p1 = some 0) ∧
      (NoteInv rival ∧ rival.victim .p1 = some 0) ∧ NoteInv play ∧ play.victim .p1 = none :=
  ⟨⟨note_of_silence _ (fun p => by cases p <;> decide +kernel) (by decide +kernel), by decide +kernel⟩,
    ⟨note_of_silence _ (fun p => by cases p <;> decide +kernel) (by decide +kernel), by decide +kernel⟩,
    ⟨rival_note, by decide +kernel⟩, play_note, by decide +kernel⟩

/-- Queues are right where one entry waits, a START of voice 0's present use at station 0. -/
theorem queue_of_start (s : State) (waiting : (s.station 0).waiting = [.voice ⟨0, 1⟩ .p1 1 (.start 0 60 0 256 0)])
    (others : ∀ st, st ≠ 0 → (s.station st).waiting = []) (use : (s.voice 0).use = 1) : QueueInv s := by
  intro st v u
  by_cases h : st = 0
  · subst h
    rw [waiting]
    by_cases mine : (0 : VoiceNo) = v ∧ 1 = u
    · obtain ⟨rfl, rfl⟩ := mine
      simp [useKinds, Entry.ofUse, Entry.kindByte, useShapes, use]
    · have : (decide ((0 : VoiceNo) = v) && decide (1 = u)) = false := by
        rw [← Bool.not_eq_true]; simpa using mine
      simp [useKinds, Entry.ofUse, useShapes, this]
  · simp [useKinds, others st h, useShapes]

theorem sounding_queue : QueueInv sounding :=
  queue_of_start sounding (by decide +kernel) (by decide +kernel) (by decide +kernel)

theorem sounding_tables : sounding.tables = play.tables := by decide +kernel

theorem sounding_p1 : sounding.player .p1 = { PlayerState.reset with
    art := .sounding, n := 1024, resolved := 60
    note := some ⟨60, none, (Tab.const 4 none).set 0 (some ⟨0, 1⟩)⟩ } := by decide +kernel

theorem sounding_p2 : sounding.player .p2 = PlayerState.reset := by decide +kernel

/-- A player that plays its first note in range. -/
theorem first_note_in_range (r : NoteRecord) (base : r.base ≤ 127) :
    PlayerInRange { PlayerState.reset with art := .sounding, n := 1024, resolved := 60, note := some r } := by
  unfold PlayerInRange
  and_intros
  all_goals dsimp only
  all_goals first | decide +kernel | (rintro r h; cases h; exact base)

theorem reset_player_in_range : PlayerInRange PlayerState.reset := by
  unfold PlayerInRange
  and_intros <;> decide +kernel

theorem reset_voice_in_range : VoiceInRange Voice.reset := by
  unfold VoiceInRange
  and_intros <;> decide +kernel

/-- A voice in range, with its return timer stopped. -/
theorem voice_in_range (x : Voice) (h : x.pitch = 60 ∧ x.bend = 0 ∧ x.level = 256 ∧ x.scale = 256 ∧ x.s = 256 ∧
    x.lastLevel = 256 ∧ x.timer = none) : VoiceInRange x := by
  obtain ⟨a, b, c, d, e, f, g⟩ := h
  simp [VoiceInRange, a, b, c, d, e, f, g]

/-- Ranges hold where two players and voice 0 are in range and the other voices stand at reset. -/
theorem range_of (s : State) (tables : TablesInRange s.tables) (p1 : PlayerInRange (s.player .p1))
    (p2 : PlayerInRange (s.player .p2)) (zero : VoiceInRange (s.voice 0))
    (others : ∀ v, v ≠ 0 → s.voice v = Voice.reset) : RangeInv s := by
  refine ⟨tables, fun p => by cases p <;> assumption, fun v => ?_⟩
  by_cases v0 : v = 0
  · subst v0; exact zero
  · rw [others v v0]; exact reset_voice_in_range

theorem sounding_range : RangeInv sounding :=
  range_of sounding (sounding_tables.symm ▸ play_tables) (sounding_p1.symm ▸ first_note_in_range _ (by decide))
    (sounding_p2.symm ▸ reset_player_in_range) (voice_in_range _ (by decide +kernel)) (by decide +kernel)

theorem sounding_link : LinkInv sounding := by
  refine ⟨?_, by unfold CountersInRange; decide +kernel, by decide +kernel⟩
  have h : ∀ st, (sounding.station st).badRun ≤ 16 ∧ (sounding.station st).request.length ≤ 40 ∧
      (sounding.station st).response.length ≤ 43 ∧ ((sounding.station st).lane = .sending →
        (sounding.station st).position < (sounding.station st).response.length) ∧ (sounding.station st).yield ≤ 2 ∧
      ((sounding.station st).sent = [] ∨ (sounding.station st).sent.length = 13) := by decide +kernel
  exact h

/-- The part's promises hold in RUN with no load or store and the memory deselected. -/
theorem part_of_run (s : State) (on : ∀ p, (s.player p).art = .disabled ↔ (s.settings p).enabled = false)
    (run : s.partState = .run) (load : s.load = none) (store : s.store = none) (msl : s.pins.msl = true)
    (mck : s.pins.mck = false) : PartInv s :=
  ⟨on, by simp [run], by simp [load], by simp [store, run], by simp [msl, load], by simp [msl, mck]⟩

theorem sounding_part : PartInv sounding :=
  part_of_run sounding (fun p => by cases p <;> decide +kernel) (by decide +kernel) (by decide +kernel)
    (by decide +kernel) (by decide +kernel) (by decide +kernel)

theorem sounding_pool : PoolInv sounding := ⟨by decide +kernel, by decide +kernel⟩

theorem sounding_timer : TimerInv sounding := ⟨fun p => by cases p <;> decide +kernel, by decide +kernel⟩

theorem sounding_idle : IdlePoolInv sounding := by
  rintro (h | h)
  · exact absurd h (by decide +kernel)
  · exact absurd h (by decide +kernel)

theorem sounding_absent : AbsentInv sounding := by
  have h : ∀ st, (sounding.station st).code = .absent →
    (sounding.station st).waiting = [] ∧ (sounding.station st).delivery = none ∧
      (sounding.station st).editRequest = false ∧ (sounding.station st).editCandidate = none := by decide +kernel
  exact h

theorem sounding_grant : GrantInv sounding := by
  have grant : sounding.grant = some 0 := by decide +kernel
  intro st h
  rw [grant] at h
  cases h
  decide +kernel

theorem sounding_flash : FlashInv sounding := by
  unfold FlashInv
  decide +kernel

theorem sounding_safe : sounding.Safe :=
  ⟨sounding_pool, sounding_note, sounding_timer, sounding_idle, sounding_part,
    fun h => absurd h (by decide +kernel), sounding_absent, sounding_grant, sounding_queue, sounding_range, sounding_link,
    sounding_flash⟩

/-- A sweep in progress is no matter of safety. -/
theorem safe_with_sweep (s : State) (w : Sweep) (h : s.Safe) (held : s.resetHeld = false) :
    { s with sweep := some w }.Safe := by
  obtain ⟨a, b, c, d, e, _, g⟩ := h
  exact ⟨a, b, c, d, e, fun h => absurd (held.symm.trans h) (by decide), g⟩

/-- `sounding` with a sweep about to complete that keeps the note: voice 0 stays in slot 0. -/
theorem witness_SweepDecidesByThresholds_sounding :
    let s := { sounding with sweep := some (sweepOf 500 2048) }
    s.Safe ∧ s.resetHeld = false ∧ (s.player .p1).art = .sounding ∧
      ((after .sweepCompletion s).map fun t => t.slot .p1 0) = some (some ⟨0, 1⟩) :=
  ⟨safe_with_sweep sounding _ sounding_safe (by decide +kernel), by decide +kernel, by decide +kernel, by decide +kernel⟩

/-- In `sounding` layer 0 is named and fits any base, and layer 1 is neither present nor named. -/
theorem witness_PitchChangeFollowsMode :
    sounding.Safe ∧ (sounding.player .p1).art = .sounding ∧ (sounding.settings .p1).mode = .legato ∧
      sounding.slot .p1 0 = some ⟨0, 1⟩ ∧ sounding.slot .p1 1 = none ∧ sounding.rendererPresent = true ∧
      (sounding.layer .p1 0).present = true ∧ (sounding.layer .p1 0).low ≤ 62 ∧ 62 ≤ (sounding.layer .p1 0).high ∧
      ¬ 128 ≤ (sounding.layer .p1 0).high ∧ (sounding.layer .p1 1).present = false ∧
      (sounding.voice 0).pitch = foldPitch (60 + (sounding.layer .p1 0).interval) ∧
      (sounding.voice 0).pitch ≠ foldPitch (62 + (sounding.layer .p1 0).interval) ∧ State.reset.rendererPresent = false ∧
      ((sounding.modTables fun t => { t with settings := Pair.both { Settings.default true with mode := .retrigger } }).settings
        .p1).mode = .retrigger :=
  ⟨sounding_safe, by decide +kernel⟩

theorem witness_ReleaseKeepsPlaces :
    sounding.rendererPresent = true ∧ (sounding.voice 0).state = .active ∧ (sounding.voice 1).state = .free ∧ PoolInv full ∧ NoteInv sounding ∧
      (sounding.player .p1).art = .sounding ∧ (sounding.player .p1).held = false ∧
      ((sounding.modPlayer .p1 fun q => { q with held := true }).player .p1).held = true :=
  ⟨by decide +kernel, by decide +kernel, by decide +kernel, full_pool, sounding_note, by decide +kernel, by decide +kernel, by decide +kernel⟩

theorem witness_ReturnsAreJudged :
    let x := fun (a : VoiceState) (taken : Bool) =>
      (play.modVoice 0 fun y => { y with state := a, releaseTaken := taken, gen := 15 }).voice 0
    (0 : BitVec 4) ≠ (x .free false).gen ∧ (15 = (x .free false).gen ∧ (x .free false).state = .free) ∧
      (x .active false).state = .active ∧ (x .held false).state = .held ∧
      ((x .releasing false).state = .releasing ∧ (x .releasing false).releaseTaken = false) ∧
      (15 = (x .releasing true).gen ∧ (x .releasing true).state = .releasing ∧ (x .releasing true).releaseTaken = true) := by
  decide +kernel

theorem witness_ReclaimFreesVoice :
    let s := sounding.modVoice 0 fun x => { x with state := .releasing, releaseTaken := true, timer := some 79 }
    let t := { setWaiting 0 [] s with bitTime := 921 }
    let until' := fun b : Nat => min (if b % 250 < 171 then 171 - b % 250 else 250 - b % 250) (1000 - b)
    play.resetHeld = false ∧ (play.voice 0).state ≠ .releasing ∧ t.resetHeld = false ∧
      (t.voice 0).state = .releasing ∧ (t.voice 0).timer = some 79 ∧ 79 ≤ until' t.bitTime ∧ until' 922 < 79 ∧
      t.rendererPresent = true ∧ (t.station t.tables.renderer).waiting = [] := by decide +kernel

theorem witness_CutAllFreesInStartOrder : PoolInv play ∧ NoteInv play := ⟨play_pool, play_note⟩

theorem witness_EventsMergeAndCancel :
    let entry := Entry.voice ⟨0, 1⟩ .p1 1
    let w := [entry (.start 0 60 0 9 0), entry .release]
    let v := [entry (.pitch 61 0), entry (.level 9)]
    (0 : Station) = play.tables.renderer ∧ (setWaiting 1 w play).tables.renderer ≠ 1 ∧
      ((setWaiting 1 w play).station 1).waiting.length < 160 ∧
      (∃ e ∈ w, (e.ofUse 0 1 && e.isStart) = true) ∧ (¬ ∃ e ∈ v, (e.ofUse 0 1 && e.isStart) = true) ∧
      (∃ e ∈ v, (e.ofUse 0 1 && e.isLevel) = true) ∧ (∃ e ∈ v, (e.ofUse 0 1 && e.isPitch) = true) ∧
      (¬ ∃ e ∈ ([] : List Entry), (e.ofUse 0 1 && e.isLevel) = true) := by decide +kernel

/-- A full monitor queue: a CUT whose removals make room is appended, one whose removals do not overflows it, and so does
a RELEASE (R119, R125). -/
theorem test_full_queue_overflows :
    let entry := Entry.voice ⟨0, 1⟩ .p1 1
    let roomy := setWaiting 1 (List.replicate 159 .sync ++ [entry .release]) play
    let full := setWaiting 1 (List.replicate 160 .sync) play
    let waits := fun (s : State) => (s.station 1).waiting
    waits (placeEvent 1 0 1 .p1 1 .cut roomy) = List.replicate 159 .sync ++ [entry .cut] ∧
      waits (placeEvent 1 0 1 .p1 1 .cut full) = [.sync] ∧ waits (placeEvent 1 0 1 .p1 1 .release full) = [.sync] ∧
      waits (placeEvent 1 0 1 .p1 1 (.level 5) full) = [.sync] := by decide +kernel

theorem witness_MonitorQueuesOverflowToSync :
    let s := setWaiting 1 (List.replicate 160 .sync) play
    (1 : Station) ≠ s.tables.renderer ∧ 160 ≤ (s.station 1).waiting.length ∧ s.receives 1 (s.voice 0).player = false ∧
      s.receives 0 (s.voice 0).player = true ∧ ∀ st, st ≠ s.tables.renderer → (s.station st).waiting.length ≤ 160 := by decide +kernel

theorem witness_DownstreamSlotShowsState :
    let x := sounding.station 0
    sounding.resetHeld = false ∧ x.code = .ready ∧ x.delivery = none ∧
      x.waiting = [.voice ⟨0, 1⟩ .p1 1 (.start 0 60 0 256 0)] ∧
      ((after (.downstreamSlot 0) sounding).map fun t => (t.station 0).delivery) =
        some (some (.voice ⟨0, 1⟩ .p1 1 (.start 0 60 0 256 0), true)) ∧
      (play.station 0).waiting = [] ∧ (play.station 1).code = .absent ∧
      ((play.station 0).answering [0]).lane = .sending ∧ ((play.station 0).answering [0]).onOffer = false := by
  decide +kernel

/-- A bad slot: byte 5 is not the XOR of the others. -/
def badSlot : List (BitVec 48) := [1]

theorem witness_SixteenBadSlotsLoseStation :
    let w := lineWord badSlot
    let s := play.modStation 0 fun x => { x with badRun := 15 }
    upByte w 5 ≠ upByte w 0 ^^^ upByte w 1 ^^^ upByte w 2 ^^^ upByte w 3 ^^^ upByte w 4 ∧ play.resetHeld = false ∧
      (play.station 0).restartWaits = false ∧ (play.station 0).badRun + 1 < 16 ∧ (s.station 0).code ≠ .absent ∧
      16 ≤ (s.station 0).badRun + 1 ∧ (s.station 0).restartWaits = false ∧ s.grant = some 0 ∧
      s.tables.renderer = 0 ∧ ((s.modStation 0 fun x => { x with restartWaits := true }).station 0).restartWaits = true := by
  decide +kernel

theorem witness_slotOf_is_good :
    let w := lineWord [slotOf 0x28 0 0]
    upByte w 5 = upByte w 0 ^^^ upByte w 1 ^^^ upByte w 2 ^^^ upByte w 3 ^^^ upByte w 4 := by decide +kernel

theorem witness_StationCodesAreLookedAtTwice :
    let x := fun (c : Option Code) => (play.modStation 0 fun x => { x with candidate := c }).station 0
    let shown := fun (b : Byte) => (upByte (lineWord [slotOf b 0 0]) 0).toNat / 16
    play.resetHeld = false ∧ (x none).restartWaits = false ∧ (shown 0x10, Code.ready) = (1, (x none).code) ∧
      (shown 0x28, Code.hold) = (2, .hold) ∧ Code.hold ≠ (x none).code ∧ (x none).candidate ≠ some .hold ∧
      (x (some .hold)).candidate = some .hold ∧ shown 0x70 ∉ [1, 2, 4, 5, 15] ∧ (shown 0x10, Code.ready) = (1, .ready) ∧
      (shown 0x40, Code.releaseAll) = (4, .releaseAll) ∧ (x (some .releaseAll)).candidate = some .releaseAll ∧
      (shown 0x50, Code.cutAll) = (5, .cutAll) ∧ (x (some .cutAll)).candidate = some .cutAll ∧
      (shown 0xF0, Code.absent) = (15, .absent) ∧ (x (some .absent)).candidate = some .absent ∧
      (sounding.voice 0).state ≠ .free := by decide +kernel

/-- The states of voices in the clauses on RELEASE-ALL and CUT-ALL. -/
theorem witness_StationCodesAreLookedAtTwice_voices : PoolInv sounding := sounding_safe.1

/-- A RELEASE in flight at the renderer, with the toggle the station echoes. -/
def taking : State :=
  (sounding.modVoice 0 fun x => { x with state := .releasing }).modStation 0 fun x =>
    { x with delivery := some (.voice ⟨0, 1⟩ .p1 1 .release, true) }

theorem witness_UpstreamSlotTakesEchoAndReturn :
    let w := lineWord [slotOf 0x14 0 0]
    let order : List SlotLane := [.echo, .giveBack, .edit, .message]
    let y := taking.voice 0
    let u := fun (code toggle valid : Byte) => readSlot (mkSlot (code ||| toggle) valid)
    taking.resetHeld = false ∧ order.Nodup ∧ order.length = 4 ∧
      upByte w 5 = upByte w 0 ^^^ upByte w 1 ^^^ upByte w 2 ^^^ upByte w 3 ^^^ upByte w 4 ∧
      (taking.station 0).delivery = some (.voice ⟨0, 1⟩ .p1 1 .release, true) ∧ true ≠ false ∧
      (play.station 0).delivery = none ∧ (0 : Station) = taking.tables.renderer ∧
      (y.state = .releasing ∧ y.gen = 1 ∧ y.use = 1 ∧ y.releaseTaken = false) ∧ (1 : Station) ≠ taking.tables.renderer ∧
      ((u 0x10 0 0).returnToggle = (play.station 0).returnToggle) ∧ (u 0x10 2 0).returnToggle ≠ (play.station 0).returnToggle ∧
      (u 0x10 2 0x80).valid = true ∧ (u 0x10 2 0).valid = false ∧
      (let z := play.modStation 1 fun x => { x with candidate := some .ready }
       (z.station 1).code = .absent ∧ (z.station 1).lane = .receiving ∧ (u 0x10 0 0).flag ≠ 3 ∧
        ((u 0x10 0 0).code.toNat, Code.ready) ∈ [(1, Code.ready), (2, .hold), (4, .releaseAll), (5, .cutAll)] ∧
        (z.station 1).candidate = some .ready) := by decide +kernel

/-- `play` with a candidate code at station 1 keeps ABSENT stations empty. -/
theorem witness_UpstreamSlotTakesEchoAndReturn_baselines :
    AbsentInv (play.modStation 1 fun x => { x with candidate := some .ready }) := by
  have h : ∀ st, let x := (play.modStation 1 fun x => { x with candidate := some .ready }).station st
      x.code = .absent → x.waiting = [] ∧ x.delivery = none ∧ x.editRequest = false ∧ x.editCandidate = none := by
    decide +kernel
  exact h

theorem witness_EditRequestsAreLookedAtTwice :
    let s := fun (c : Option Bool) => play.modStation 0 fun x => { x with editCandidate := c }
    let b := fun (code : Byte) => (upByte (lineWord [slotOf code 0 0]) 0).getLsbD 3
    ((s none).station 0).restartWaits = false ∧ ((s none).station 0).code ≠ .absent ∧
      (((s none).station 0).code, (upByte (lineWord [slotOf 0x10 0 0]) 0).toNat / 16) = (Code.ready, 1) ∧
      b 0x18 = ((s none).station 0).editRequest ∧ b 0x10 ≠ ((s none).station 0).editRequest ∧
      ((s none).station 0).editCandidate ≠ some (b 0x10) ∧ ((s (some false)).station 0).editCandidate = some (b 0x10) ∧
      (s (some false)).grant = some 0 := by decide +kernel

theorem witness_MessageLaneMovesBytes :
    let u := fun (m flags : Byte) => readSlot (slotOf 0x10 m flags)
    let s := fun (l : List Byte) => play.modStation 0 fun x => { x with request := l }
    let a := fun (l : List Byte) => (play.modStation 0 (StationState.answering l)).modStation 0 fun x => { x with onOffer := true }
    (play.station 0).lane = .receiving ∧ ((u 1 0x60).flag = 1 ∧ (u 1 0x60).toggle ≠ (play.station 0).requestToggle) ∧
      (u 1 0xA0).flag = 2 ∧ (u 1 0xC0).flag = 3 ∧ ((s (List.replicate 39 0)).station 0).request.length < 40 ∧
      40 ≤ ((s (List.replicate 40 0)).station 0).request.length ∧
      ((a [0, 1]).station 0).lane = .sending ∧ ((a [0, 1]).station 0).position + 1 < ((a [0, 1]).station 0).response.length ∧
      ((a [0]).station 0).response.length ≤ ((a [0]).station 0).position + 1 ∧ ((a [0]).station 0).onOffer = true ∧
      (u 1 0).ack = ((a [0]).station 0).responseToggle ∧ (u 1 0x10).ack ≠ ((a [0]).station 0).responseToggle ∧
      (((play.modStation 0 fun x => { x with lane := .refusing }).station 0).lane = .refusing ∧ (u 1 0).flag = 0) := by
  decide +kernel

theorem witness_FrameSyncAwardsGrant :
    let asks := fun (s : State) (st : Station) => (s.station st).editRequest = true ∧ (s.station st).yield = 0
    play.resetHeld = false ∧ play.grant ≠ none ∧ (∀ st, ¬ asks State.reset st) ∧
      { play with grant := none }.grant = none ∧ asks { play with grant := none } 0 ∧
      (∀ o, o < 0 → ¬ asks { play with grant := none } o) := by decide +kernel

theorem witness_RefusedRequestsChangeNothing :
    State.reset.resetHeld = false ∧ State.reset.partState = .loading ∧ Request.readPool ≠ .readStatus ∧
      Request.storeImage.marked = true ∧ play.partState ≠ .loading ∧ play.grant ≠ some 1 ∧
      { play with partState := .storing }.partState = .storing ∧ Request.storeImage.barredByStore = true ∧
      play.grant = some 0 ∧ (Request.readEntry 192).namesNothing ∧ (Request.readEntry 192).marked = false ∧
      (Request.readEntry 192).barredByStore = false :=
  ⟨rfl, rfl, nofun, rfl, nofun, by decide, rfl, rfl, rfl, by unfold Request.namesNothing; decide, rfl, rfl⟩

theorem play_writes : play.writes 0 := ⟨rfl, rfl, rfl⟩

theorem play_edits : play.edits 0 := ⟨⟨rfl, nofun⟩, rfl⟩

theorem witness_ReadsAnswerStoredFields :
    play.serves ∧ winner play.tables.entries 0 7 = none ∧
      winner { play with tables := exampleTables }.tables.entries 0 7 = some 5 :=
  ⟨play_edits.1, by decide +kernel, by decide +kernel⟩

theorem witness_StatusReportsPart :
    play.resetHeld = false ∧ (play.player .p1).art ≠ .sounding ∧ (sounding.player .p1).art = .sounding ∧
      (sounding.player .p1).note = some ⟨60, none, (Tab.const 4 none).set 0 (some ⟨0, 1⟩)⟩ ∧
      State.reset.partState = .loading := by decide +kernel

theorem witness_WritesReplaceWholeObjects :
    play.writes 0 ∧ play.edits 0 ∧ { play with partState := .storing }.edits 0 ∧ (3 : Byte) = BitVec.ofNat 8 (3 : Fin 4).val :=
  ⟨play_writes, play_edits, ⟨⟨rfl, nofun⟩, rfl⟩, rfl⟩

theorem witness_WritePlayerStoresThenEnables :
    play.rendererPresent = true ∧
      ((play.modPlayer .p1 fun q => { q with lip := ⟨.fault, 0⟩ }).player .p1).lip.state = .fault ∧ play.writes 0 ∧ (Settings.default true).raw.chart = BitVec.ofNat 8 (0 : Fin 4).val ∧
      (Settings.default true).raw.layerSet = BitVec.ofNat 8 (0 : Fin 8).val ∧ (play.settings .p1).enabled = true ∧
      (play.settings .p2).enabled = false ∧ PoolInv play :=
  ⟨by decide +kernel, by decide +kernel, play_writes, rfl, rfl, rfl, rfl, play_pool⟩

theorem witness_WritePartAndRouteMoveQueues :
    play.writes 0 ∧ (0 : Station) = play.tables.renderer ∧ (1 : Station) ≠ play.tables.renderer ∧
      (∀ v, (play.voice v).state = .free) ∧ sounding.writes 0 ∧ (sounding.voice 0).state ≠ .free ∧
      (play.station 1).code = .absent ∧ (play.tables.routes.get 1).p1 = false ∧ (3 : Byte).getLsbD 0 = true ∧
      ((play.modStation 1 fun x => { x with code := .ready }).station 1).code ≠ .absent ∧
      ((play.modStation 1 fun x => { x with waiting := List.replicate 159 .sync }).station 1).waiting.length < 160 ∧
      160 ≤ ((play.modStation 1 fun x => { x with waiting := List.replicate 160 .sync }).station 1).waiting.length :=
  ⟨play_writes, by decide +kernel, by decide +kernel, by decide +kernel, ⟨by decide +kernel, by decide +kernel, by decide +kernel⟩,
    by decide +kernel, by decide +kernel, by decide +kernel, by decide +kernel, by decide +kernel, by decide +kernel,
    by decide +kernel⟩

theorem witness_AttentionRequestsActOnOwnSets :
    let x := { StationState.reset with attention := 0x2001, masked := 1 }
    play.serves ∧ (∀ k, k < 14 → ¬ ((play.station 0).attention.getLsbD k = true ∧ (play.station 0).masked.getLsbD k = false)) ∧
      (x.attention.getLsbD 13 = true ∧ x.masked.getLsbD 13 = false) ∧
      (∀ j, j < 13 → ¬ (x.attention.getLsbD j = true ∧ x.masked.getLsbD j = false)) ∧
      (play.station 1).code = .absent ∧ (play.station 0).code ≠ .absent :=
  ⟨play_edits.1, by decide +kernel, by decide, by decide, by decide +kernel, by decide +kernel⟩

/-- A channel in FAULT is no matter of safety. -/
theorem safe_with_fault (s : State) (p : Player) (h : s.Safe) (held : s.resetHeld = false) :
    (s.modPlayer p fun q => { q with lip := ⟨.fault, 0⟩ }).Safe := by
  obtain ⟨pool, note, timer, idle, part, _, absent, grant, queue, ⟨tables, players, voices⟩, link, flash⟩ := h
  refine ⟨pool, fun q => ?_, ⟨fun q => ?_, timer.2⟩, idle, ⟨fun q => ?_, part.2⟩,
    fun h => absurd (held.symm.trans h) (by decide), absent, grant, queue, ⟨tables, fun q => ?_, voices⟩, link, flash⟩
  · cases p <;> cases q <;> first | exact note .p1 | exact note .p2
  · cases p <;> cases q <;> first | exact timer.1 .p1 | exact timer.1 .p2
  · cases p <;> cases q <;> first | exact part.1 .p1 | exact part.1 .p2
  · cases p <;> cases q <;>
      first
      | exact players .p1
      | exact players .p2
      | exact ⟨(players .p1).1, (by decide : 0 < 64), (players .p1).2.2⟩
      | exact ⟨(players .p2).1, (by decide : 0 < 64), (players .p2).2.2⟩

theorem witness_LongOperationsBegin_faulted :
    let s := sounding.modPlayer .p1 fun q => { q with lip := ⟨.fault, 0⟩ }
    s.writes 0 ∧ s.Safe ∧ (s.player .p1).lip.state = .fault ∧ s.startOrder = [0] :=
  ⟨⟨by decide +kernel, by decide +kernel, by decide +kernel⟩,
    safe_with_fault sounding .p1 sounding_safe (by decide +kernel), by decide +kernel, by decide +kernel⟩

theorem witness_LongOperationsBegin :
    play.edits 0 ∧ play.writes 0 ∧ play.Safe ∧ (play.player .p1).art = .silent ∧ (play.player .p2).art ≠ .silent :=
  ⟨play_edits, play_writes, play_safe, by decide +kernel, by decide +kernel⟩

/-- A header as R168 lays it out, with sum 0. -/
def header : List Byte := [0x5A, 0xA7, 1, 8, 0x46, 0, 0] ++ List.replicate 57 0xFF

theorem witness_LoadStepsEndInTablesOrDefaults :
    let s := fun (x : LoadStep) => { State.reset with load := some x }
    (∀ e, play.load ≠ some (.busyWait e)) ∧ (s (.busyWait 0)).load = some (.busyWait 0) ∧ play.load ≠ some .header ∧
      (s .header).load = some .header ∧ header.length = 64 ∧ header.take 5 = [0x5A, 0xA7, 1, 0x08, 0x46] ∧
      (Memory.readBytes State.reset.flash 0 64).take 5 ≠ [0x5A, 0xA7, 1, 0x08, 0x46] ∧ (∀ sum, play.load ≠ some (.body sum)) ∧
      (s (.body 0)).load = some (.body 0) ∧ (List.replicate 2118 (0 : Byte)).length = 2118 ∧
      ((List.replicate 2118 (0 : Byte)).map BitVec.toNat).sum % 65536 = (0 : BitVec 16).toNat ∧
      ((List.replicate 2118 (1 : Byte)).map BitVec.toNat).sum % 65536 ≠ (0 : BitVec 16).toNat :=
  ⟨nofun, rfl, nofun, rfl, by decide +kernel, by decide +kernel, by decide +kernel, nofun, rfl, List.length_replicate,
    by decide +kernel, by decide +kernel⟩

theorem witness_StoreStepsWriteImage :
    let s := fun (x : StoreStep) => { play with
      partState := .storing, store := some ⟨x, 0⟩, storeFor := some 0, snapshot := List.replicate 2118 0 }
    (s .erase).resetHeld = false ∧ play.store = none ∧ (s .erase).store = some ⟨.erase, 0⟩ ∧
      (s (.page 34)).store = some ⟨.page 34, 0⟩ ∧ (s (.page 34)).snapshot.length = 2118 ∧ 1 ≤ 34 ∧ 34 ≤ 34 ∧
      Memory.wf (s (.page 34)).flash = true ∧ (s .header).store = some ⟨.header, 0⟩ :=
  ⟨rfl, rfl, rfl, rfl, List.length_replicate, by decide, by decide, rfl, rfl⟩

/-- `play` with its frame sync waiting steps to a next state: the premises of the statements about every step. -/
theorem witness_StepKeeps :
    let s := { play with pending := [.frameSync] }
    (∃ t, step s = .next t) ∧ s.Safe ∧ PoolInv s ∧ PartInv s ∧ NoteInv s ∧ AbsentInv s ∧ GrantInv s ∧ RangeInv s ∧
      LinkInv s ∧ FlashInv s := by
  have held : HeldInv { play with pending := [.frameSync] } := fun h => nomatch h
  refine ⟨⟨_, rfl⟩, ⟨play_pool, play_note, play_timer, play_idle, play_part, held, play_absent, play_grant, play_queue,
    play_range, play_link, ?_⟩, play_pool, play_part, play_note, play_absent, play_grant,
    play_range, play_link, ?_⟩ <;> exact rfl

theorem witness_StepKeepsLinkAndMemory_waiting : ∀ st, (play.station st).waiting.length ≤ 160 := by decide +kernel

theorem witness_RendererQueueIsBounded : play.Safe ∧ RendererInv play ∧ ∃ t, step { play with pending := [.frameSync] } = .next t := by
  refine ⟨play_safe, ⟨by decide +kernel, ?_, ?_⟩, _, rfl⟩
  · have empty : (play.station play.tables.renderer).waiting = [] := by decide +kernel
    intro v
    simp [empty]
  · have flight : ∀ st, (play.station st).delivery = none := by decide +kernel
    intro st i p use ev tog h
    rw [flight st] at h
    cases h

end Sys2Proof.Machine.Tests
end

section
/-!
PROOF. The frame of the note work that a scan can hand on: besides the pool's frame (`PoolWorkOnly`), a pitch change
moves note records only, and a fingering change also its own player's settle timer and note resolved pitch.
-/
namespace Sys2Proof.Machine

open Sys2Proof

/-! ### The pool's frame is reflexive and transitive -/

/-- The pool's work, field by field and as one record update. -/
theorem poolWork_iff_eq {s t : State} :
    PoolWork s t ↔ t = { s with
      players := t.players, voices := t.voices, freeList := t.freeList, startOrder := t.startOrder
      stations := t.stations, counters := t.counters } := by
  constructor
  · intro h
    obtain ⟨⟩ := h
    cases s
    cases t
    simp_all
  · intro h
    constructor <;> rw [h]

theorem PoolWorkOnly.poolWork {s t : State} (h : PoolWorkOnly s t) : PoolWork s t := poolWork_iff_eq.2 h.1

theorem PoolWorkOnly.refl (s : State) : PoolWorkOnly s s := ⟨rfl, fun _ => rfl, rfl⟩

theorem PoolWorkOnly.trans {s t u : State} (h : PoolWorkOnly s t) (k : PoolWorkOnly t u) : PoolWorkOnly s u := by
  refine ⟨poolWork_iff_eq.1 (h.poolWork.trans k.poolWork), fun st => ?_, ?_⟩
  · rw [k.2.1 st, h.2.1 st]
  · rw [k.2.2, h.2.2]

theorem PoolWorkOnly.settings {s t : State} (h : PoolWorkOnly s t) (p : Player) : t.settings p = s.settings p := by
  rw [State.settings, h.poolWork.tables, State.settings]

theorem modPlayer_poolWorkOnly (p : Player) (f : PlayerState → PlayerState) (s : State) :
    PoolWorkOnly s (s.modPlayer p f) := ⟨rfl, fun _ => rfl, rfl⟩

/-! ### Note work: of the players, only note records move -/

/-- `t` differs from `s` in the pool's frame, and of what the blocks hold per player in note records at most. -/
structure NoteWork (s t : State) : Prop where
  only : PoolWorkOnly s t
  player : ∀ p, t.player p = { s.player p with note := (t.player p).note }

theorem NoteWork.refl (s : State) : NoteWork s s := ⟨.refl s, fun _ => rfl⟩

theorem NoteWork.trans {s t u : State} (h : NoteWork s t) (k : NoteWork t u) : NoteWork s u where
  only := h.only.trans k.only
  player p := by rw [k.player p, h.player p]

theorem NoteWork.ite {c : Prop} [Decidable c] {s t u : State} (h : NoteWork s t) (k : NoteWork s u) :
    NoteWork s (if c then t else u) := by split <;> assumption

theorem NoteWork.foldl {α : Type} {f : State → α → State} (h : ∀ t a, NoteWork t (f t a)) (l : List α) (s : State) :
    NoteWork s (l.foldl f s) := by
  induction l generalizing s with
  | nil => exact .refl s
  | cons a l ih => exact (h s a).trans (ih (f s a))

theorem QueueWork.noteWork {s t : State} (h : QueueWork s t) : NoteWork s t where
  only := ⟨poolWork_iff_eq.1 h.pool, h.station, by rw [h.counters]⟩
  player p := by rw [State.player, h.players, State.player]

theorem issue_noteWork (v : VoiceNo) (ev : Event) (s : State) : NoteWork s (issue v ev s) :=
  (issue_queueWork v ev s).noteWork

theorem modVoice_noteWork (v : VoiceNo) (f : Voice → Voice) (s : State) : NoteWork s (s.modVoice v f) :=
  ⟨⟨rfl, fun _ => rfl, rfl⟩, fun _ => rfl⟩

theorem startOrder_noteWork (l : List VoiceNo) (s : State) : NoteWork s { s with startOrder := l } :=
  ⟨⟨rfl, fun _ => rfl, rfl⟩, fun _ => rfl⟩

theorem freeList_noteWork (l : List VoiceNo) (s : State) : NoteWork s { s with freeList := l } :=
  ⟨⟨rfl, fun _ => rfl, rfl⟩, fun _ => rfl⟩

/-- A change of a player that moves its note record only. -/
theorem modPlayer_noteWork (p : Player) (f : PlayerState → PlayerState) (s : State)
    (h : ∀ q, f q = { q with note := (f q).note }) : NoteWork s (s.modPlayer p f) where
  only := modPlayer_poolWorkOnly p f s
  player q := by
    rw [State.player_modPlayer]
    split
    · next e => subst e; exact h _
    · rfl

/-- A count of steals or dropped layers. -/
theorem modCounters_noteWork (f : Counters → Counters) (s : State)
    (h : ∀ c, f c = { c with steals := (f c).steals, droppedLayers := (f c).droppedLayers }) :
    NoteWork s (s.modCounters f) :=
  ⟨⟨rfl, fun _ => rfl, by rw [State.counters_modCounters, h s.counters]⟩, fun _ => rfl⟩

theorem broadcast_noteWork (k : Kind) (s : State) : NoteWork s (broadcast k s) where
  only := by
    refine ⟨rfl, fun st => ?_, rfl⟩
    rw [station_broadcast]
    split <;> rfl
  player _ := rfl

/-! ### The voice pool's operations are note work -/

theorem startVoice_noteWork (p : Player) (L : LayerNo) (c : StartContents) (v : VoiceNo) (s : State) :
    NoteWork s (startVoice p L c v s) :=
  ((modVoice_noteWork v _ s).trans (startOrder_noteWork _ _)).trans (issue_noteWork v _ _)

theorem endIncarnation_noteWork (v : VoiceNo) (s : State) : NoteWork s (endIncarnation v s) :=
  (((NoteWork.ite (modPlayer_noteWork _ _ s fun _ => rfl) (.refl s)).trans (issue_noteWork v .cut _)).trans
    (modVoice_noteWork v _ _)).trans (startOrder_noteWork _ _)

theorem fillSlot_noteWork (p : Player) (L : LayerNo) (v : VoiceNo) (s : State) : NoteWork s (fillSlot p L v s) :=
  modPlayer_noteWork p _ s fun _ => rfl

theorem stealVoice_noteWork (p : Player) (L : LayerNo) (c : StartContents) (v : VoiceNo) (s : State) :
    NoteWork s (stealVoice p L c v s) :=
  (((endIncarnation_noteWork v s).trans (startVoice_noteWork p L c v _)).trans
    (modCounters_noteWork _ _ fun _ => rfl)).trans (broadcast_noteWork _ _)

theorem dropLayer_noteWork (s : State) : NoteWork s (dropLayer s) :=
  (modCounters_noteWork _ s fun _ => rfl).trans (broadcast_noteWork _ _)

theorem allocate_noteWork (p : Player) (L : LayerNo) (c : StartContents) (s : State) : NoteWork s (allocate p L c s) := by
  unfold allocate
  split
  · exact ((freeList_noteWork _ s).trans (startVoice_noteWork p L c _ _)).trans (fillSlot_noteWork p L _ _)
  · split
    · exact (stealVoice_noteWork p L c _ s).trans (fillSlot_noteWork p L _ _)
    · exact dropLayer_noteWork s

theorem releaseVoice_noteWork (v : VoiceNo) (s : State) : NoteWork s (releaseVoice v s) :=
  .ite ((modVoice_noteWork v _ s).trans (issue_noteWork v _ _)) (.refl s)

theorem releaseGroup_noteWork (which : Voice → Bool) (s : State) : NoteWork s (releaseGroup which s) :=
  .foldl (fun t v => .ite (releaseVoice_noteWork v t) (.refl t)) _ s

/-! ### A pitch change is note work -/

theorem askLayer_noteWork (p : Player) (base : Nat) (L : LayerNo) (s : State) : NoteWork s (askLayer p base L s) :=
  .ite (allocate_noteWork p L _ s) (.refl s)

theorem buildNote_noteWork (p : Player) (base : Nat) (s : State) : NoteWork s (buildNote p base s) :=
  .foldl (fun t L => askLayer_noteWork p base L t) _ s

theorem releaseSlot_noteWork (p : Player) (L : LayerNo) (s : State) : NoteWork s (releaseSlot p L s) := by
  unfold releaseSlot
  split
  · exact (releaseVoice_noteWork _ s).trans (modPlayer_noteWork p _ _ fun _ => rfl)
  · exact .refl s

theorem retune_noteWork (p : Player) (v : VoiceNo) (pitch : Nat) (s : State) : NoteWork s (retune p v pitch s) :=
  .ite (.refl s) ((modVoice_noteWork v _ s).trans (issue_noteWork v _ _))

theorem legatoLayer_noteWork (p : Player) (base : Nat) (L : LayerNo) (s : State) :
    NoteWork s (legatoLayer p base L s) := by
  unfold legatoLayer
  split
  · exact .ite (retune_noteWork p _ _ s) (releaseSlot_noteWork p L s)
  · exact askLayer_noteWork p base L s

theorem writeBase_noteWork (p : Player) (base : Nat) (s : State) : NoteWork s (writeBase p base s) :=
  modPlayer_noteWork p _ s fun _ => rfl

theorem pitchChange_noteWork (p : Player) (base : Nat) (s : State) : NoteWork s (pitchChange p base s) := by
  unfold pitchChange
  split
  · exact (writeBase_noteWork p base s).trans (.foldl (fun t L => legatoLayer_noteWork p base L t) _ _)
  · exact (writeBase_noteWork p base s).trans
      (.ite ((NoteWork.foldl (fun t L => releaseSlot_noteWork p L t) _ _).trans (buildNote_noteWork p base _)) (.refl _))

/-! ### What a scan hands on for one player -/

/-- `t` differs from `s` in the pool's frame; of player `p`, in note record, settle timer and note resolved pitch at
most; of the other player, in its note record at most. -/
structure HandOn (p : Player) (s t : State) : Prop where
  only : PoolWorkOnly s t
  own : t.player p =
    { s.player p with note := (t.player p).note, settle := (t.player p).settle, resolved := (t.player p).resolved }
  other : ∀ q, q ≠ p → t.player q = { s.player q with note := (t.player q).note }

theorem NoteWork.handOn {s t : State} (h : NoteWork s t) (p : Player) : HandOn p s t where
  only := h.only
  own := by rw [h.player p]
  other q _ := h.player q

theorem HandOn.refl (p : Player) (s : State) : HandOn p s s := (NoteWork.refl s).handOn p

theorem HandOn.trans {p : Player} {s t u : State} (h : HandOn p s t) (k : HandOn p t u) : HandOn p s u where
  only := h.only.trans k.only
  own := by rw [k.own, h.own]
  other q hq := by rw [k.other q hq, h.other q hq]

theorem HandOn.ite {p : Player} {c : Prop} [Decidable c] {s t u : State} (h : HandOn p s t) (k : HandOn p s u) :
    HandOn p s (if c then t else u) := by split <;> assumption

/-- A change of the player's own note record, settle timer and note resolved pitch. -/
theorem modPlayer_handOn (p : Player) (f : PlayerState → PlayerState) (s : State)
    (h : ∀ q, f q = { q with note := (f q).note, settle := (f q).settle, resolved := (f q).resolved }) :
    HandOn p s (s.modPlayer p f) where
  only := modPlayer_poolWorkOnly p f s
  own := by rw [State.player_modPlayer_same]; exact h _
  other q hq := by rw [State.player_modPlayer, if_neg hq]

theorem resolveNote_handOn (p : Player) (s : State) : HandOn p s (resolveNote p s) := by
  have noted : HandOn p s (noteResolution p s) := modPlayer_handOn p _ s fun _ => rfl
  unfold resolveNote
  dsimp only
  split
  · exact .ite noted (noted.trans ((pitchChange_noteWork p _ _).handOn p))
  · exact noted

theorem fingeringChange_handOn (p : Player) (s : State) : HandOn p s (fingeringChange p s) :=
  .ite (.ite (resolveNote_handOn p s) (modPlayer_handOn p _ s fun _ => rfl)) (.refl p s)

theorem holdReleased_handOn (p : Player) (s : State) : HandOn p s (holdReleased p s) :=
  (releaseGroup_noteWork _ s).handOn p

/-- Releasing voices leaves everything held per player alone, note records included. -/
@[simp] theorem releaseVoice_players (v : VoiceNo) (s : State) : (releaseVoice v s).players = s.players := by
  unfold releaseVoice
  split
  · rw [issue_players, State.modVoice_players]
  · rfl

@[simp] theorem releaseGroup_players (which : Voice → Bool) (s : State) : (releaseGroup which s).players = s.players := by
  have step : ∀ (l : List VoiceNo) (t : State),
      (l.foldl (fun t v => if which (t.voice v) then releaseVoice v t else t) t).players = t.players := by
    intro l
    induction l with
    | nil => intro t; rfl
    | cons v l ih =>
      intro t
      rw [List.foldl_cons, ih]
      split
      · exact releaseVoice_players v t
      · rfl
  exact step _ s

@[simp] theorem player_holdReleased (p q : Player) (s : State) : (holdReleased p s).player q = s.player q := by
  rw [State.player, holdReleased, releaseGroup_players, State.player]

end Sys2Proof.Machine
end

section
/-!
PROOF. The key scanner (O20, O21, O22): what a scan's start fixes, how a completion forms word, offset and hold state,
and what it hands on.
-/
namespace Sys2Proof.Machine

open Sys2Proof

/-! ### The two commands -/

theorem exec_scanStart_eq (m1 m2 : BitVec 32) (s : State) (h : s.resetHeld = false) :
    exec (.scanStart m1 m2) s = .next (startScan m1 m2 s) := by
  have arm : exec (.scanStart m1 m2) s = execScanStart m1 m2 s := rfl
  rw [arm, execScanStart, unlessHeld, h]
  rfl

/-- A completion with a scan in progress: player 1's work, then player 2's, once the drive lines rest (R17). -/
theorem exec_scanCompletion_eq (a b : Bool) (w : Scan) (s : State) (h : s.resetHeld = false) (hw : s.scan = some w) :
    exec (.scanCompletion a b) s = .next (scanPlayer .p2 w b (scanPlayer .p1 w a (endScan s))) := by
  have arm : exec (.scanCompletion a b) s = execScanCompletion a b s := rfl
  rw [arm, execScanCompletion, unlessHeld, h, completeScan, hw]
  rfl

theorem endScan_eq (s : State) : endScan s = { s with scan := none, pins := { s.pins with kd := [0xFF] } } := rfl

/-- Drive line d alone is low at the d-th of the eight drives (R178). -/
theorem scanDrives_eq : scanDrives = [0xFE, 0xFD, 0xFB, 0xF7, 0xEF, 0xDF, 0xBF, 0x7F] := by decide

/-- The readings hold every matrix position but KD7 with sense 3 (R178). -/
theorem matrixInputs_getLsbD (m : BitVec 32) (k : Nat) (hk : k < 31) : (matrixInputs m).getLsbD k = m.getLsbD k := by
  rw [matrixInputs, BitVec.getLsbD_setWidth, decide_eq_true hk, Bool.true_and]

/-! ### The double look and what is formed from it -/

/-- An input that reads as it stands keeps its state and loses its mark (R18). -/
theorem look_of_agree {d r : BitVec 31} (m : BitVec 31) {k : Nat} (h : r.getLsbD k = d.getLsbD k) :
    (d ^^^ confirmed d m r).getLsbD k = d.getLsbD k ∧ (marksAfter d m r).getLsbD k = false := by
  simp [confirmed, marksAfter, h]

/-- An unmarked input that differs keeps its state and is marked (R18). -/
theorem look_of_first_difference {d m r : BitVec 31} {k : Nat} (hk : k < 31) (h : r.getLsbD k ≠ d.getLsbD k)
    (hm : m.getLsbD k = false) :
    (d ^^^ confirmed d m r).getLsbD k = d.getLsbD k ∧ (marksAfter d m r).getLsbD k = true := by
  rw [BitVec.getLsbD_eq_getElem hk] at hm
  rw [BitVec.getLsbD_eq_getElem hk, BitVec.getLsbD_eq_getElem hk] at h
  simp [confirmed, marksAfter, hk, hm, Ne.symm h]

/-- A marked input takes its reading and loses its mark (R18). -/
theorem look_of_mark (d r : BitVec 31) {m : BitVec 31} {k : Nat} (hm : m.getLsbD k = true) :
    (d ^^^ confirmed d m r).getLsbD k = r.getLsbD k ∧ (marksAfter d m r).getLsbD k = false := by
  simp [confirmed, marksAfter, hm]

/-- The offset as a search of octave contacts 5 down to 0 (R20). -/
theorem octaveOf_contacts (d : BitVec 31) :
    octaveOf d =
      if d.getLsbD (24 + (5 : Fin 6).val) then 3
      else if d.getLsbD (24 + (4 : Fin 6).val) then 2
      else if d.getLsbD (24 + (3 : Fin 6).val) then 1
      else if d.getLsbD (24 + (2 : Fin 6).val) then -1
      else if d.getLsbD (24 + (1 : Fin 6).val) then -2
      else if d.getLsbD (24 + (0 : Fin 6).val) then -3
      else 0 := rfl

/-- The offset is that of the highest closed octave contact (R20). -/
theorem octaveOf_highest (d : BitVec 31) (c : Fin 6) (closed : d.getLsbD (24 + c.val) = true)
    (above : ∀ e : Fin 6, c < e → d.getLsbD (24 + e.val) = false) :
    octaveOf d = [-3, -2, -1, 1, 2, 3].getD c.val 0 := by
  have passed : ∀ e : Fin 6, c < e → ¬ d.getLsbD (24 + e.val) = true := fun e he => Bool.eq_false_iff.1 (above e he)
  refine (octaveOf_contacts d).trans ?_
  match c, closed, passed with
  | 5, closed, _ => exact if_pos closed
  | 4, closed, passed => exact (if_neg (passed 5 (by decide))).trans (if_pos closed)
  | 3, closed, passed =>
    exact (if_neg (passed 5 (by decide))).trans ((if_neg (passed 4 (by decide))).trans (if_pos closed))
  | 2, closed, passed =>
    exact (if_neg (passed 5 (by decide))).trans ((if_neg (passed 4 (by decide))).trans
      ((if_neg (passed 3 (by decide))).trans (if_pos closed)))
  | 1, closed, passed =>
    exact (if_neg (passed 5 (by decide))).trans ((if_neg (passed 4 (by decide))).trans
      ((if_neg (passed 3 (by decide))).trans ((if_neg (passed 2 (by decide))).trans (if_pos closed))))
  | 0, closed, passed =>
    exact (if_neg (passed 5 (by decide))).trans ((if_neg (passed 4 (by decide))).trans
      ((if_neg (passed 3 (by decide))).trans ((if_neg (passed 2 (by decide))).trans
        ((if_neg (passed 1 (by decide))).trans (if_pos closed)))))

/-- With every octave contact open the offset is 0 (R20). -/
theorem octaveOf_open (d : BitVec 31) (h : ∀ c : Fin 6, d.getLsbD (24 + c.val) = false) : octaveOf d = 0 := by
  have passed : ∀ c : Fin 6, ¬ d.getLsbD (24 + c.val) = true := fun c => Bool.eq_false_iff.1 (h c)
  rw [octaveOf_contacts, if_neg (passed 5), if_neg (passed 4), if_neg (passed 3), if_neg (passed 2), if_neg (passed 1),
    if_neg (passed 0)]

/-- A take-over forms the inputs from the readings directly and clears its mark (R24). -/
theorem scanned_takeOver (r : BitVec 31) (q : PlayerState) :
    q.scanned true r = { q.formed r 0 with takeOver := false } := rfl

/-- Without a take-over the inputs are formed by the double look (R18). -/
theorem scanned_look (r : BitVec 31) (q : PlayerState) :
    q.scanned false r = q.formed (q.debounced ^^^ confirmed q.debounced q.marks r) (marksAfter q.debounced q.marks r) :=
  rfl

/-- Word, offset and hold state are formed from the debounced states, by take-over or not (R19 to R21). -/
theorem scanned_formed (b : Bool) (r : BitVec 31) (q : PlayerState) :
    (q.scanned b r).word = (q.scanned b r).debounced.setWidth 24 ∧
      (q.scanned b r).octave = octaveOf (q.scanned b r).debounced ∧
      (q.scanned b r).held = (q.scanned b r).debounced.getLsbD 30 := by
  cases b <;> exact ⟨rfl, rfl, rfl⟩

/-- A take-over clears its mark, and the double look leaves it (R24). -/
theorem scanned_mark (b : Bool) (r : BitVec 31) (q : PlayerState) :
    (q.scanned b r).takeOver = (q.takeOver && !b) := by
  cases b
  · exact (Bool.and_true _).symm
  · exact (Bool.and_false _).symm

/-- Reading the inputs moves the keywork of the player alone. -/
theorem scanned_frame (b : Bool) (r : BitVec 31) (q : PlayerState) :
    q.scanned b r =
      { q with
        takeOver := (q.scanned b r).takeOver, debounced := (q.scanned b r).debounced, marks := (q.scanned b r).marks
        word := (q.scanned b r).word, octave := (q.scanned b r).octave, held := (q.scanned b r).held } := by
  cases b <;> rfl

/-- What a completion forms for a player, `q` before and `q'` after it: the inputs by take-over or by the double look,
and word, offset and hold state from them (R18 to R21, R24). -/
structure FormsInputs (takeOver : Bool) (r : BitVec 31) (q q' : PlayerState) : Prop where
  taken : takeOver = true → q'.debounced = r ∧ q'.marks = 0
  looked : takeOver = false → ∀ k, k < 31 →
    (r.getLsbD k = q.debounced.getLsbD k →
      q'.debounced.getLsbD k = q.debounced.getLsbD k ∧ q'.marks.getLsbD k = false) ∧
    (r.getLsbD k ≠ q.debounced.getLsbD k → q.marks.getLsbD k = false →
      q'.debounced.getLsbD k = q.debounced.getLsbD k ∧ q'.marks.getLsbD k = true) ∧
    (r.getLsbD k ≠ q.debounced.getLsbD k → q.marks.getLsbD k = true →
      q'.debounced.getLsbD k = r.getLsbD k ∧ q'.marks.getLsbD k = false)
  word : ∀ k, k < 24 → q'.word.getLsbD k = q'.debounced.getLsbD k
  octave : ∀ c : Fin 6, q'.debounced.getLsbD (24 + c.val) = true →
    (∀ d : Fin 6, c < d → q'.debounced.getLsbD (24 + d.val) = false) → q'.octave = [-3, -2, -1, 1, 2, 3].getD c.val 0
  noOctave : (∀ c : Fin 6, q'.debounced.getLsbD (24 + c.val) = false) → q'.octave = 0
  held : q'.held = q'.debounced.getLsbD 30

theorem scanned_formsInputs (b : Bool) (r : BitVec 31) (q : PlayerState) : FormsInputs b r q (q.scanned b r) := by
  obtain ⟨word, octave, held⟩ := scanned_formed b r q
  refine ⟨?_, ?_, fun k hk => ?_, fun c closed above => ?_, fun opened => ?_, held⟩
  · rintro rfl
    rw [scanned_takeOver]
    exact ⟨rfl, rfl⟩
  · rintro rfl k hk
    rw [scanned_look]
    exact ⟨look_of_agree q.marks, look_of_first_difference hk, fun _ => look_of_mark q.debounced r⟩
  · simp [word, hk]
  · rw [octave, octaveOf_highest _ c closed above]
  · rw [octave, octaveOf_open _ opened]

/-! ### The two hand-ons -/

/-- The hand-on to the resolver happens exactly where word or offset changed (R22). -/
theorem handFingering_eq {p : Player} (before : PlayerState) {after : PlayerState} {s : State}
    (word : (s.player p).word = after.word) (octave : (s.player p).octave = after.octave) :
    handFingering p before s =
      if after.word ≠ before.word ∨ after.octave ≠ before.octave then fingeringChange p s else s := by
  rw [handFingering, word, octave]
  split
  · next same => exact (if_neg fun changed => changed.elim (· same.1.symm) (· same.2.symm)).symm
  · next differs =>
    have changed : after.word ≠ before.word ∨ after.octave ≠ before.octave :=
      (Decidable.not_and_iff_not_or_not.1 differs).imp Ne.symm Ne.symm
    exact (if_pos changed).symm

/-- The hand-on to the articulation controller happens exactly where the hold state went off (R22, R72). -/
theorem handHold_eq {p : Player} (before : PlayerState) {after : PlayerState} {s : State}
    (held : (s.player p).held = after.held) :
    handHold p before s = if before.held = true ∧ after.held = false then holdReleased p s else s := by
  rw [handHold, held]
  cases after.held with
  | true => rw [if_neg fun off => off.2 rfl, if_neg fun off => Bool.noConfusion off.2]
  | false => simp only [Bool.false_eq_true, not_false_eq_true]

theorem handFingering_handOn (p : Player) (before : PlayerState) (s : State) :
    HandOn p s (handFingering p before s) := .ite (.refl p s) (fingeringChange_handOn p s)

theorem handHold_handOn (p : Player) (before : PlayerState) (s : State) : HandOn p s (handHold p before s) :=
  .ite (holdReleased_handOn p s) (.refl p s)

@[simp] theorem player_handHold (p q : Player) (before : PlayerState) (s : State) :
    (handHold p before s).player q = s.player q := by
  unfold handHold
  split
  · exact player_holdReleased p q s
  · rfl

/-- A fingering change does nothing to a player that is not SOUNDING (R60). -/
theorem fingeringChange_of_not_sounding {p : Player} {s : State} (h : (s.player p).art ≠ .sounding) :
    fingeringChange p s = s := if_neg h

/-- At W = 0 a SOUNDING player's fingering change is resolved at once (R57). -/
theorem fingeringChange_of_no_window {p : Player} {s : State} (h : (s.player p).art = .sounding)
    (w : (s.settings p).settleMs = 0) : fingeringChange p s = resolveNote p s := by
  rw [fingeringChange, if_pos h, if_pos w]

/-- With a settle window a SOUNDING player's fingering change starts the timer with the whole of it (R56). -/
theorem fingeringChange_of_window {p : Player} {s : State} (h : (s.player p).art = .sounding)
    (w : 1 ≤ (s.settings p).settleMs) :
    fingeringChange p s = s.modPlayer p fun q => { q with settle := some ((s.settings p).settleMs * 4000) } := by
  rw [fingeringChange, if_pos h, if_neg (by omega)]
  rfl

theorem resolveNote_resolves (p : Player) (s : State) : Resolves p s (resolveNote p s) := by
  intro r hr
  have noted : noteResolution p s = s.modPlayer p fun q =>
      { q with settle := none, resolved := s.playerResolved p, note := some { r with source := s.playerSource p } } := by
    have note : (s.players.get p).note = some r := hr
    simp [noteResolution, State.modPlayer, note]
  constructor
  · intro same
    simp [resolveNote, hr, same, noted]
  · intro differs
    simp [resolveNote, hr, differs, noted]

/-! ### A completion's work for one player -/

/-- Player `p`'s inputs are read; nothing is handed on yet. -/
def readInputs (p : Player) (w : Scan) (s : State) : State :=
  s.modPlayer p (PlayerState.scanned (w.takeOver.get p) (w.readings.get p))

@[simp] theorem player_readInputs_same (p : Player) (w : Scan) (s : State) :
    (readInputs p w s).player p = (s.player p).scanned (w.takeOver.get p) (w.readings.get p) :=
  State.player_modPlayer_same s p _

theorem player_readInputs_ne {p q : Player} (h : q ≠ p) (w : Scan) (s : State) :
    (readInputs p w s).player q = s.player q := by rw [readInputs, State.player_modPlayer, if_neg h]

/-- Nothing is handed on for a player disabled at the start or since, or under take-over (R22, R24, R25). -/
theorem scanPlayer_silent {p : Player} {w : Scan} (holdFirst : Bool) (s : State)
    (h : w.enabled.get p = false ∨ w.takeOver.get p = true) : scanPlayer p w holdFirst s = readInputs p w s := by
  have off : (w.enabled.get p && !w.takeOver.get p) = false := by
    obtain h | h := h <;> simp [h]
  rw [scanPlayer, off]
  rfl

/-- The hand-ons of any other player, in the operand's order (R22). -/
theorem scanPlayer_hands {p : Player} {w : Scan} (holdFirst : Bool) (s : State) (on : w.enabled.get p = true)
    (looks : w.takeOver.get p = false) :
    scanPlayer p w holdFirst s =
      if holdFirst then handFingering p (s.player p) (handHold p (s.player p) (readInputs p w s))
      else handHold p (s.player p) (handFingering p (s.player p) (readInputs p w s)) := by
  have handsOn : (w.enabled.get p && !w.takeOver.get p) = true := by rw [on, looks]; rfl
  exact if_pos handsOn

/-- Each hand-on happens exactly where its cause stands in the inputs read: neither hand-on takes the other's cause away
(R22, R72). -/
theorem scanPlayer_hands_exactly {p : Player} {w : Scan} (holdFirst : Bool) (s : State) (on : w.enabled.get p = true)
    (looks : w.takeOver.get p = false) :
    let q := s.player p
    let u := readInputs p w s
    let changed := (u.player p).word ≠ q.word ∨ (u.player p).octave ≠ q.octave
    let letGo := q.held = true ∧ (u.player p).held = false
    let t := scanPlayer p w holdFirst s
    (¬ changed → ¬ letGo → t = u) ∧
      (changed → ¬ letGo → t = fingeringChange p u) ∧
      (¬ changed → letGo → t = holdReleased p u) ∧
      (changed → letGo →
        t = if holdFirst then fingeringChange p (holdReleased p u) else holdReleased p (fingeringChange p u)) := by
  intro q u changed letGo t
  have fingers : ∀ x, HandOn p u x → handFingering p q x = if changed then fingeringChange p x else x :=
    fun x h => handFingering_eq q (by rw [h.own]) (by rw [h.own])
  have hold : ∀ x, HandOn p u x → handHold p q x = if letGo then holdReleased p x else x :=
    fun x h => handHold_eq q (by rw [h.own])
  have handed : t =
      if holdFirst then if changed then fingeringChange p (if letGo then holdReleased p u else u)
        else if letGo then holdReleased p u else u
      else if letGo then holdReleased p (if changed then fingeringChange p u else u)
        else if changed then fingeringChange p u else u := by
    rw [← hold u (.refl p u), ← fingers u (.refl p u), ← fingers _ (handHold_handOn p q u),
      ← hold _ (handFingering_handOn p q u)]
    exact scanPlayer_hands holdFirst s on looks
  refine ⟨fun c l => ?_, fun c l => ?_, fun c l => ?_, fun c l => ?_⟩ <;> rw [handed]
  · simp only [if_neg c, if_neg l, ite_self]
  · simp only [if_pos c, if_neg l, ite_self]
  · simp only [if_neg c, if_pos l, ite_self]
  · simp only [if_pos c, if_pos l]

theorem scanPlayer_handOn (p : Player) (w : Scan) (holdFirst : Bool) (s : State) :
    HandOn p (readInputs p w s) (scanPlayer p w holdFirst s) :=
  .ite
    (.ite ((handHold_handOn p _ _).trans (handFingering_handOn p _ _))
      ((handFingering_handOn p _ _).trans (handHold_handOn p _ _)))
    (.refl p _)

/-- Of the other player a completion's work moves the note record at most, by a steal. -/
theorem scanPlayer_other {p q : Player} (h : q ≠ p) (w : Scan) (holdFirst : Bool) (s : State) :
    ∃ note, (scanPlayer p w holdFirst s).player q = { s.player q with note := note } :=
  ⟨_, by rw [(scanPlayer_handOn p w holdFirst s).other q h, player_readInputs_ne h]⟩

/-- Of its own player it moves, besides the inputs read, what a hand-on can move. -/
theorem scanPlayer_own (p : Player) (w : Scan) (holdFirst : Bool) (s : State) :
    ∃ note settle resolved, (scanPlayer p w holdFirst s).player p =
      { (s.player p).scanned (w.takeOver.get p) (w.readings.get p) with
        note := note, settle := settle, resolved := resolved } :=
  ⟨_, _, _, by rw [(scanPlayer_handOn p w holdFirst s).own, player_readInputs_same]⟩

theorem scanPlayer_poolWorkOnly (p : Player) (w : Scan) (holdFirst : Bool) (s : State) :
    PoolWorkOnly s (scanPlayer p w holdFirst s) :=
  (modPlayer_poolWorkOnly p _ s).trans (scanPlayer_handOn p w holdFirst s).only

/-! ### A completion's work for both players -/

/-- Player 1's work, then player 2's (R17). -/
def scanBoth (w : Scan) (a b : Bool) (s : State) : State := scanPlayer .p2 w b (scanPlayer .p1 w a s)

theorem scanBoth_poolWorkOnly (w : Scan) (a b : Bool) (s : State) : PoolWorkOnly s (scanBoth w a b s) :=
  (scanPlayer_poolWorkOnly .p1 w a s).trans (scanPlayer_poolWorkOnly .p2 w b _)

/-- Both players' inputs are read, and of each only what a hand-on can move is moved besides. -/
theorem scanBoth_player (w : Scan) (a b : Bool) (s : State) (p : Player) :
    ∃ note settle resolved, (scanBoth w a b s).player p =
      { (s.player p).scanned (w.takeOver.get p) (w.readings.get p) with
        note := note, settle := settle, resolved := resolved } := by
  cases p with
  | p1 =>
    obtain ⟨_, settle, resolved, own⟩ := scanPlayer_own .p1 w a s
    obtain ⟨note, other⟩ := scanPlayer_other (p := .p2) (q := .p1) (by decide) w b (scanPlayer .p1 w a s)
    exact ⟨note, settle, resolved, by rw [scanBoth, other, own]⟩
  | p2 =>
    obtain ⟨_, other⟩ := scanPlayer_other (p := .p1) (q := .p2) (by decide) w a s
    obtain ⟨note, settle, resolved, own⟩ := scanPlayer_own .p2 w b (scanPlayer .p1 w a s)
    refine ⟨note, settle, resolved, ?_⟩
    rw [scanBoth, own, other]
    cases w.takeOver.get .p2 <;> rfl

/-- Where nothing is handed on for either player, only inputs are read. -/
theorem scanBoth_silent (w : Scan) (a b : Bool) (s : State)
    (h : ∀ p, w.enabled.get p = false ∨ w.takeOver.get p = true) :
    scanBoth w a b s = readInputs .p2 w (readInputs .p1 w s) := by
  rw [scanBoth, scanPlayer_silent a s (h .p1), scanPlayer_silent b _ (h .p2)]

theorem player_readBoth (w : Scan) (s : State) (p : Player) :
    (readInputs .p2 w (readInputs .p1 w s)).player p =
      (s.player p).scanned (w.takeOver.get p) (w.readings.get p) := by
  cases p with
  | p1 => rw [player_readInputs_ne (by decide), player_readInputs_same]
  | p2 => rw [player_readInputs_same, player_readInputs_ne (by decide)]

/-! ### The settle timer over a completion -/

/-- What R56 says of a player's settle timer, `q` before and `q'` after a completion, with `full` the whole window. -/
def TimerFollows (full : Nat) (q q' : PlayerState) : Prop :=
  (q'.word = q.word ∧ q'.octave = q.octave → q'.settle = q.settle) ∧
    (q'.word ≠ q.word ∨ q'.octave ≠ q.octave → q'.settle = some full)

/-- The hand-on to the resolver, for a player whose timer was left alone so far. -/
theorem handFingering_timer {p : Player} {q : PlayerState} {s : State} (sounds : (s.player p).art = .sounding)
    (window : 1 ≤ (s.settings p).settleMs) (settle : (s.player p).settle = q.settle) :
    TimerFollows ((s.settings p).settleMs * 4000) q ((handFingering p q s).player p) := by
  rw [handFingering_eq q rfl rfl]
  split
  · next changed =>
    rw [fingeringChange_of_window sounds window, State.player_modPlayer_same]
    exact ⟨fun same => absurd changed (not_or.2 ⟨absurd same.1, absurd same.2⟩), fun _ => rfl⟩
  · next same => exact ⟨fun _ => settle, fun changed => absurd changed same⟩

theorem scanPlayer_timer {p : Player} {w : Scan} (holdFirst : Bool) {s : State} (on : w.enabled.get p = true)
    (looks : w.takeOver.get p = false) (sounds : (s.player p).art = .sounding)
    (window : 1 ≤ (s.settings p).settleMs) :
    TimerFollows ((s.settings p).settleMs * 4000) (s.player p) ((scanPlayer p w holdFirst s).player p) := by
  have timer : ∀ t, t.player p = (readInputs p w s).player p → t.settings p = s.settings p →
      TimerFollows ((s.settings p).settleMs * 4000) (s.player p) ((handFingering p (s.player p) t).player p) := by
    intro t same settings
    rw [player_readInputs_same, scanned_frame] at same
    rw [← settings]
    exact handFingering_timer (by rw [same]; exact sounds) (by rw [settings]; exact window) (by rw [same])
  rw [scanPlayer_hands holdFirst s on looks]
  cases holdFirst with
  | true => exact timer _ (player_handHold ..) ((handHold_handOn p _ _).only.settings p)
  | false =>
    rw [if_neg Bool.false_ne_true, player_handHold]
    exact timer _ rfl rfl

theorem scanBoth_timer {p : Player} {w : Scan} (a b : Bool) {s : State} (on : w.enabled.get p = true)
    (looks : w.takeOver.get p = false) (sounds : (s.player p).art = .sounding)
    (window : 1 ≤ (s.settings p).settleMs) :
    TimerFollows ((s.settings p).settleMs * 4000) (s.player p) ((scanBoth w a b s).player p) := by
  cases p with
  | p1 =>
    obtain ⟨_, other⟩ := scanPlayer_other (p := .p2) (q := .p1) (by decide) w b (scanPlayer .p1 w a s)
    rw [scanBoth, other]
    exact scanPlayer_timer a on looks sounds window
  | p2 =>
    obtain ⟨_, other⟩ := scanPlayer_other (p := .p1) (q := .p2) (by decide) w a s
    have settings := (scanPlayer_poolWorkOnly .p1 w a s).settings .p2
    have timer := scanPlayer_timer (s := scanPlayer .p1 w a s) b on looks (by rw [other]; exact sounds)
      (by rw [settings]; exact window)
    rw [settings, other] at timer
    exact timer

/-! ### The obligations -/

/-- Settles O20. -/
theorem scanStartFixesReadings : Obligations.ScanStartFixesReadings := by
  intro m1 m2 s h
  refine ⟨newScan s m1 m2, ?_, fun k hk => ?_, fun p => ?_, fun p => ?_⟩
  · rw [exec_scanStart_eq m1 m2 s h, startScan, scanDrives_eq]
  · exact ⟨matrixInputs_getLsbD m1 k hk, matrixInputs_getLsbD m2 k hk⟩
  · cases p <;> rfl
  · cases p <;> rfl

/-- Settles O21: both players' inputs are those `PlayerState.scanned` reads, and what is handed on moves note records,
settle timers and note resolved pitches alone. -/
theorem scanLooksTwice : Obligations.ScanLooksTwice := by
  intro w a b s held hw ended
  refine ⟨scanBoth w a b ended, exec_scanCompletion_eq a b w s held hw, scanBoth_poolWorkOnly w a b ended,
    fun p => ?_, fun p => ?_, fun silent => ⟨?_, fun p => ?_⟩⟩
  · obtain ⟨_, _, _, e⟩ := scanBoth_player w a b ended p
    rw [e, ← scanned_mark _ (w.readings.get p), scanned_frame]
    rfl
  · obtain ⟨_, _, _, e⟩ := scanBoth_player w a b ended p
    rw [e]
    obtain ⟨taken, looked, word, octave, noOctave, held⟩ :=
      scanned_formsInputs (w.takeOver.get p) (w.readings.get p) (s.player p)
    exact ⟨taken, looked, word, octave, noOctave, held⟩
  · rw [scanBoth_silent w a b ended silent]
    rfl
  · rw [scanBoth_silent w a b ended silent, player_readBoth]
    exact scanned_frame _ _ _

/-- Settles O22: the timer by `scanBoth_timer`, the hand-ons by `scanPlayer_silent` and `scanPlayer_hands_exactly`. -/
theorem fingeringChangeRestartsTimer : Obligations.FingeringChangeRestartsTimer := by
  refine ⟨fun p w a b s held hw on looks sounds window => ?_, fun p s => fingeringChange_of_not_sounding,
    fun w a b s held hw => exec_scanCompletion_eq a b w s held hw, fun p w holdFirst s => ?_,
    fun p s sounds noWindow => ?_⟩
  · obtain ⟨stands, restarts⟩ := scanBoth_timer (s := endScan s) a b on looks sounds window
    exact ⟨_, exec_scanCompletion_eq a b w s held hw, stands, restarts⟩
  · exact ⟨scanPlayer_silent holdFirst s, scanPlayer_hands_exactly holdFirst s⟩
  · rw [fingeringChange_of_no_window sounds noWindow]
    exact resolveNote_resolves p s

end Sys2Proof.Machine
end

section
/-!
PROOF. Level and pitch arithmetic (O16, O17, O18): the curve, smoothing and scaling stages, the fold, and the bend of a
lip sample.
-/
namespace Sys2Proof.Machine

open Sys2Proof

/-! ### Stage 3: the curve -/

/-- Position f of segment i lies in segment i (R33). -/
theorem curveSegment_of_position (i : Fin 8) {f : Nat} (hf : f < 512) : curveSegment (512 * i.val + f) = i := by
  have segment : min 7 ((512 * i.val + f) / 512) = i.val := by omega
  exact Fin.ext segment

theorem interpolate_eq (d f : Int) : interpolate d f = (d * f + 256) / 512 :=
  Int.fdiv_eq_ediv_of_nonneg _ (by decide)

/-- On a rising segment the interpolated part lies between none and all of the rise. -/
theorem interpolate_of_nonneg {d f : Int} (hd : 0 ≤ d) (h0 : 0 ≤ f) (hf : f < 512) :
    0 ≤ interpolate d f ∧ interpolate d f ≤ d := by
  have low : 0 ≤ d * f := Int.mul_nonneg hd h0
  have high : d * f ≤ d * 512 := Int.mul_le_mul_of_nonneg_left (Int.le_of_lt hf) hd
  rw [interpolate_eq]
  omega

/-- On a falling segment it lies between all of the fall and none. -/
theorem interpolate_of_nonpos {d f : Int} (hd : d ≤ 0) (h0 : 0 ≤ f) (hf : f < 512) :
    d ≤ interpolate d f ∧ interpolate d f ≤ 0 := by
  have high : d * f ≤ 0 := Int.mul_nonpos_of_nonpos_of_nonneg hd h0
  have low : d * 512 ≤ d * f := Int.mul_le_mul_of_nonpos_left hd (Int.le_of_lt hf)
  rw [interpolate_eq]
  omega

/-- Between its points `a` and `b`, either way round, a segment stays between them. -/
theorem interpolate_between (a b : Nat) {f : Int} (h0 : 0 ≤ f) (hf : f < 512) :
    ((min a b : Nat) : Int) ≤ a + interpolate ((b : Int) - a) f ∧
      a + interpolate ((b : Int) - a) f ≤ ((max a b : Nat) : Int) := by
  obtain rises | falls := Nat.le_total a b
  · obtain ⟨low, high⟩ := interpolate_of_nonneg (d := (b : Int) - a) (by omega) h0 hf
    omega
  · obtain ⟨low, high⟩ := interpolate_of_nonpos (d := (b : Int) - a) (by omega) h0 hf
    omega

/-- The curve value at position f of segment i, as an integer (R33). -/
theorem curveValue_cast (c : Curve) (i : Fin 8) {f : Nat} (hf : f < 512) :
    (curveValue c (512 * i.val + f) : Int) =
      c.get i.castSucc + interpolate ((c.get i.succ : Int) - c.get i.castSucc) f := by
  obtain ⟨low, _⟩ := interpolate_between (c.get i.castSucc) (c.get i.succ) (f := f) (by omega) (by omega)
  have position : ((512 * i.val + f : Nat) : Int) - 512 * i.val = f := by omega
  rw [curveValue, curveSegment_of_position i hf, position, Int.toNat_of_nonneg (by omega)]

/-! ### Stage 4: smoothing -/

/-- Smoothing treats rises and falls alike (R36). -/
theorem smoothStep_neg (d : Int) (k : Nat) : smoothStep (-d) k = -smoothStep d k := by
  simp only [smoothStep, Int.neg_mul, Int.neg_tdiv, Int.sign_neg, Int.neg_eq_zero]
  split <;> rfl

/-- A rise moves by at least one count and never past the target (R36). -/
theorem smoothStep_of_pos {d : Int} {k : Nat} (hd : 0 < d) (h1 : 1 ≤ k) (h16 : k ≤ 16) :
    0 < smoothStep d k ∧ smoothStep d k ≤ d := by
  have low : 0 ≤ d * k := Int.mul_nonneg (Int.le_of_lt hd) (by omega)
  have high : d * k ≤ d * 16 := Int.mul_le_mul_of_nonneg_left (by omega) (Int.le_of_lt hd)
  unfold smoothStep
  dsimp only
  rw [Int.tdiv_eq_ediv_of_nonneg low, Int.sign_eq_one_of_pos hd]
  split <;> omega

theorem smoothStep_of_neg {d : Int} {k : Nat} (hd : d < 0) (h1 : 1 ≤ k) (h16 : k ≤ 16) :
    d ≤ smoothStep d k ∧ smoothStep d k < 0 := by
  obtain ⟨moves, stops⟩ := smoothStep_of_pos (d := -d) (by omega) h1 h16
  rw [smoothStep_neg] at moves stops
  omega

theorem smoothStep_zero (k : Nat) : smoothStep 0 k = 0 := by simp [smoothStep]

/-- With k = 16 the step is the whole difference (R36). -/
theorem smoothStep_sixteen (d : Int) : smoothStep d 16 = d := by
  have whole : Int.tdiv (d * (16 : Nat)) 16 = d := Int.mul_tdiv_cancel d (by decide)
  unfold smoothStep
  dsimp only
  rw [whole]
  split
  · next h => rw [h]; rfl
  · rfl

/-- The step with the one count toward the target written out (R36). -/
theorem smoothStep_eq (d : Int) (k : Nat) :
    smoothStep d k =
      if Int.tdiv (d * k) 16 ≠ 0 then Int.tdiv (d * k) 16 else if 0 < d then 1 else if d < 0 then -1 else 0 := by
  have one : Int.sign d = if 0 < d then 1 else if d < 0 then -1 else 0 := by
    obtain h | h | h := Int.lt_trichotomy d 0
    · rw [Int.sign_eq_neg_one_of_neg h, if_neg (by omega), if_pos h]
    · rw [h]; rfl
    · rw [Int.sign_eq_one_of_pos h, if_pos h]
  unfold smoothStep
  dsimp only
  rw [one, ite_not]

/-- The smoothing state after a sweep, as an integer: a step toward the target never leaves the naturals. -/
theorem smooth_cast (s target : Nat) {k : Nat} (h1 : 1 ≤ k) (h16 : k ≤ 16) :
    (smooth s target k : Int) = s + smoothStep ((target : Int) - s) k := by
  refine Int.toNat_of_nonneg ?_
  obtain h | h | h := Int.lt_trichotomy ((target : Int) - s) 0
  · have := smoothStep_of_neg h h1 h16
    omega
  · rw [h, smoothStep_zero]
    omega
  · have := smoothStep_of_pos h h1 h16
    omega

/-! ### Stage 5: scaling -/

theorem scaleLevel_le {s scale : Nat} (hs : s ≤ 1023) (hscale : scale ≤ 256) : scaleLevel s scale ≤ 1023 := by
  have product : s * scale ≤ 1023 * 256 := Nat.mul_le_mul hs hscale
  unfold scaleLevel
  omega

theorem scaleLevel_full (s : Nat) : scaleLevel s 256 = s := by
  unfold scaleLevel
  omega

theorem scaleLevel_zero (s : Nat) : scaleLevel s 0 = 0 := by
  unfold scaleLevel
  omega

/-! ### The fold -/

theorem foldPitch_of_mem {x : Int} (h0 : 0 ≤ x) (h127 : x ≤ 127) : (foldPitch x : Int) = x := by
  unfold foldPitch
  rw [if_neg (by omega), if_neg (by omega), Int.toNat_of_nonneg h0]

/-- Below 0 the fold is the remainder by twelve (R42). -/
theorem foldPitch_of_neg {x : Int} (h : x < 0) : (foldPitch x : Int) = x % 12 := by
  unfold foldPitch
  rw [if_pos h, Int.toNat_of_nonneg (by omega)]

/-- Above 127 it is the one value from 116 to 127 that differs from x by twelves (R42). -/
theorem foldPitch_of_gt {x : Int} (h : 127 < x) : (foldPitch x : Int) = 116 + (x - 116) % 12 := by
  unfold foldPitch
  rw [if_neg (by omega), if_pos h, Int.toNat_of_nonneg (by omega)]

theorem foldPitch_le (x : Int) : foldPitch x ≤ 127 := by
  obtain h | h | h : x < 0 ∨ 127 < x ∨ 0 ≤ x ∧ x ≤ 127 := by omega
  · have := foldPitch_of_neg h
    omega
  · have := foldPitch_of_gt h
    omega
  · have := foldPitch_of_mem h.1 h.2
    omega

/-- The fold moves by twelves, at most 5 up or 6 down for a sum within -60 to +187 (R42). -/
theorem foldPitch_by_twelves (x : Int) :
    ∃ k : Int, (foldPitch x : Int) = x + 12 * k ∧ (-60 ≤ x → x ≤ 187 → -6 ≤ k ∧ k ≤ 5) := by
  obtain h | h | h : x < 0 ∨ 127 < x ∨ 0 ≤ x ∧ x ≤ 127 := by omega
  · refine ⟨-(x / 12), ?_, by omega⟩
    rw [foldPitch_of_neg h]
    omega
  · refine ⟨-((x - 116) / 12), ?_, by omega⟩
    rw [foldPitch_of_gt h]
    omega
  · exact ⟨0, by rw [foldPitch_of_mem h.1 h.2]; omega, by omega⟩

/-! ### The bend of a lip sample -/

theorem bendOf_within {raw centre deadzone : Nat} (depth : Nat) (h : ((raw : Int) - centre).natAbs ≤ deadzone) :
    bendOf raw centre deadzone depth = 0 := if_pos h

/-- Above the deadzone: the rest of the movement, scaled and limited (R40). -/
theorem bendOf_above (centre depth : Nat) {deadzone d : Nat} (h : deadzone < d) :
    bendOf (centre + d) centre deadzone depth = min 200 (((d - deadzone) * depth / 256 : Nat) : Int) := by
  have movement : ((centre + d : Nat) : Int) - centre = d := by omega
  have rest : (d : Int) - deadzone = ((d - deadzone : Nat) : Int) := by omega
  have scaled : Int.tdiv (((d - deadzone : Nat) : Int) * depth) 256 = (((d - deadzone) * depth / 256 : Nat) : Int) := by
    rw [← Int.natCast_mul]
    rfl
  unfold bendOf
  dsimp only
  rw [movement, if_neg (by omega), if_pos (by omega), rest, scaled]
  omega

/-- Below the deadzone: the same, the other way (R40). -/
theorem bendOf_below {centre deadzone d : Nat} (depth : Nat) (h : deadzone < d) (hd : d ≤ centre) :
    bendOf (centre - d) centre deadzone depth = -min 200 (((d - deadzone) * depth / 256 : Nat) : Int) := by
  have movement : ((centre - d : Nat) : Int) - centre = -d := by omega
  have rest : -(d : Int) + deadzone = -((d - deadzone : Nat) : Int) := by omega
  have scaled :
      Int.tdiv (-((d - deadzone : Nat) : Int) * depth) 256 = -(((d - deadzone) * depth / 256 : Nat) : Int) := by
    rw [Int.neg_mul, Int.neg_tdiv, ← Int.natCast_mul]
    rfl
  unfold bendOf
  dsimp only
  rw [movement, if_neg (by omega), if_neg (by omega), rest, scaled]
  omega

/-! ### The obligations -/

/-- Settles O16: stage 3 by `curveValue_cast` and `interpolate_between`, stage 4 by `smooth_cast` and the bounds of
`smoothStep`, stage 5 by the bound of the product. -/
theorem levelStagesStayInRange : Obligations.LevelStagesStayInRange := by
  refine ⟨fun c i f hf => ?_, fun s target k h1 h16 => ?_⟩
  · have value := curveValue_cast c i hf
    obtain ⟨low, high⟩ := interpolate_between (c.get i.castSucc) (c.get i.succ) (f := f) (by omega) (by omega)
    rw [← value] at low high
    refine ⟨by rw [value, interpolate_eq], by omega, by omega, fun point => ?_⟩
    subst point
    rw [interpolate_eq, Int.natCast_zero, Int.mul_zero] at value
    omega
  · have state := smooth_cast s target h1 h16
    refine ⟨by rw [state, smoothStep_eq], fun rise => ?_, fun fall => ?_, ?_, fun scale hscale hs => ?_⟩
    · have := smoothStep_of_pos (d := (target : Int) - s) (by omega) h1 h16
      omega
    · have := smoothStep_of_neg (d := (target : Int) - s) (by omega) h1 h16
      omega
    · have reached := smooth_cast s target (k := 16) (by decide) (by decide)
      rw [smoothStep_sixteen] at reached
      omega
    · exact ⟨rfl, scaleLevel_le hs hscale, scaleLevel_full s, scaleLevel_zero s⟩

/-- Settles O17. -/
theorem foldKeepsPitchClass : Obligations.FoldKeepsPitchClass := by
  refine ⟨fun x => ⟨foldPitch_of_mem, fun h => ?_, fun h => ?_, foldPitch_by_twelves x⟩,
    fun r o t hr ho ho' ht ht' => ⟨rfl, by omega, by omega, fun i hi hi' => ?_⟩⟩
  · have := foldPitch_of_neg h
    omega
  · have := foldPitch_of_gt h
    omega
  · have base : basePitch r o t ≤ 127 := foldPitch_le _
    exact ⟨rfl, by omega, by omega⟩

/-- Settles O18. -/
theorem bendIsSymmetric : Obligations.BendIsSymmetric := by
  refine fun centre deadzone depth d =>
    ⟨fun h => bendOf_within depth (by omega), bendOf_above centre depth, fun hd => ?_⟩
  obtain outside | within := Nat.lt_or_ge deadzone d
  · rw [bendOf_below depth outside hd, bendOf_above centre depth outside]
  · rw [bendOf_within depth (by omega), bendOf_within depth (by omega), Int.neg_zero]

end Sys2Proof.Machine
end

section
/-!
PROOF. The level and bend reports (O19).
-/
namespace Sys2Proof.Machine

open Sys2Proof

/-! ### When a report is due -/

/-- A level is reported past the dead band, or at an end of the range when it differs at all (R39). -/
theorem levelReported_iff {level last deadBand : Nat} :
    levelReported level last deadBand = true ↔
      (last + deadBand ≤ level ∨ level + deadBand ≤ last) ∨ (level = 0 ∨ level = 1023) ∧ level ≠ last := by
  have far : deadBand ≤ ((level : Int) - last).natAbs ↔ last + deadBand ≤ level ∨ level + deadBand ≤ last := by omega
  simp only [levelReported, Bool.or_eq_true, Bool.and_eq_true, decide_eq_true_eq, beq_iff_eq, bne_iff_ne, far]

/-- A bend is reported when it differs by 2 or more, or at 0 or an end when it differs at all (R41). -/
theorem bendReported_iff {bend last : Int} :
    bendReported bend last = true ↔
      (2 ≤ bend - last ∨ 2 ≤ last - bend) ∨ (bend = 0 ∨ bend = 200 ∨ bend = -200) ∧ bend ≠ last := by
  have moved : 2 ≤ (bend - last).natAbs ↔ 2 ≤ bend - last ∨ 2 ≤ last - bend := by omega
  simp only [bendReported, Bool.or_eq_true, Bool.and_eq_true, decide_eq_true_eq, beq_iff_eq, bne_iff_ne, moved,
    or_assoc]

/-! ### The level report -/

theorem reportLevel_of_due {v : VoiceNo} {deadBand : Nat} {s : State}
    (h : levelReported (s.voice v).level (s.voice v).lastLevel deadBand = true) :
    reportLevel v deadBand s =
      issue v (.level (s.voice v).level) (s.modVoice v fun y => { y with lastLevel := (s.voice v).level }) :=
  if_pos h

theorem reportLevel_of_not_due {v : VoiceNo} {deadBand : Nat} {s : State}
    (h : ¬ levelReported (s.voice v).level (s.voice v).lastLevel deadBand = true) : reportLevel v deadBand s = s :=
  if_neg h

/-! ### The voices of a note -/

/-- The voices that player `p`'s note record names, in layer order. -/
def State.noteVoices (s : State) (p : Player) : List VoiceNo :=
  (upTo 4).filterMap fun L => (s.slot p L).map Incarnation.voice

theorem mem_noteVoices {s : State} {p : Player} {L : LayerNo} {i : Incarnation} (h : s.slot p L = some i) :
    i.voice ∈ s.noteVoices p :=
  List.mem_filterMap.2 ⟨L, mem_upTo L, by rw [h]; rfl⟩

/-- A slot is a field of the player. -/
theorem slot_eq_of_player {s t : State} {p : Player} (h : t.player p = s.player p) (L : LayerNo) :
    t.slot p L = s.slot p L := by rw [State.slot, h, State.slot]

/-- Work on voices that leaves a player alone reaches the voices its note record named at the start. -/
theorem forEachSlot_eq_foldl (p : Player) {f : VoiceNo → State → State} (h : ∀ v t, (f v t).player p = t.player p)
    (s : State) : forEachSlot p f s = (s.noteVoices p).foldl (fun t v => f v t) s := by
  have along : ∀ (l : List LayerNo) (t : State), t.player p = s.player p →
      l.foldl (fun t L => match t.slot p L with | some i => f i.voice t | none => t) t =
        (l.filterMap fun L => (s.slot p L).map Incarnation.voice).foldl (fun t v => f v t) t := by
    intro l
    induction l with
    | nil => intro t _; rfl
    | cons L l ih =>
      intro t same
      rw [List.foldl_cons, slot_eq_of_player same, List.filterMap_cons]
      cases s.slot p L with
      | none => exact ih t same
      | some i => exact ih _ ((h i.voice t).trans same)
  exact along _ s rfl

/-! ### The bend report -/

theorem bendVoice_player (bend : Int) (v : VoiceNo) (p : Player) (s : State) :
    (bendVoice bend v s).player p = s.player p := by rw [State.player, bendVoice, issue_players]; rfl

/-- A bend report writes the bend of its voice and no other field of a voice (R41). -/
theorem bendVoice_voice (bend : Int) (v u : VoiceNo) (s : State) :
    (bendVoice bend v s).voice u = if u = v then { s.voice u with bend := bend } else s.voice u := by
  rw [State.voice, bendVoice, issue_voices]
  refine (State.voice_modVoice s v u _).trans ?_
  split
  · next h => rw [h]
  · rfl

/-- Over a list of voices, each listed one has its bend written. -/
theorem foldl_bendVoice_voice (bend : Int) (l : List VoiceNo) (u : VoiceNo) (s : State) :
    (l.foldl (fun t v => bendVoice bend v t) s).voice u =
      if u ∈ l then { s.voice u with bend := bend } else s.voice u := by
  induction l generalizing s with
  | nil => rfl
  | cons v l ih =>
    rw [List.foldl_cons, ih, bendVoice_voice]
    by_cases here : u = v <;> by_cases later : u ∈ l <;> simp [here, later]

theorem reportBend_of_due {p : Player} {s : State} (sounds : (s.player p).art = .sounding)
    (due : bendReported (s.player p).bend (s.player p).lastBend = true) :
    reportBend p s =
      ((s.noteVoices p).foldl (fun t v => bendVoice (s.player p).bend v t) s).modPlayer p
        fun x => { x with lastBend := (s.player p).bend } := by
  rw [← forEachSlot_eq_foldl p fun v t => bendVoice_player _ v p t]
  exact if_pos ⟨sounds, due⟩

theorem reportBend_of_not_due {p : Player} {s : State}
    (h : ¬ ((s.player p).art = .sounding ∧ bendReported (s.player p).bend (s.player p).lastBend = true)) :
    reportBend p s = s := if_neg h

/-! ### The obligation -/

/-- Settles O19. -/
theorem reportsCrossTheDeadBand : Obligations.ReportsCrossTheDeadBand := by
  refine fun s => ⟨fun v deadBand => ⟨fun due => ?_, fun near inside => ?_⟩,
    fun p => ⟨fun sounds due => ?_, fun quiet => ?_⟩⟩
  · exact reportLevel_of_due (levelReported_iff.2 due)
  · exact reportLevel_of_not_due fun due => (levelReported_iff.1 due).elim near inside
  · have report := reportBend_of_due sounds (bendReported_iff.2 due)
    refine ⟨by rw [report, State.player_modPlayer_same], report, fun L i named => ?_⟩
    rw [report, State.voice_modPlayer, foldl_bendVoice_voice, if_pos (mem_noteVoices named)]
    exact ⟨rfl, rfl⟩
  · refine reportBend_of_not_due fun ⟨sounds, due⟩ => ?_
    obtain silent | ⟨near, inside⟩ := quiet
    · exact silent sounds
    · exact (bendReported_iff.1 due).elim near inside

end Sys2Proof.Machine
end

section
/-!
PROOF. Writes of whole objects (O45): how a request that passes the checks is answered, what an index field that names
an object stands for, and when a field's clamp changes it.
-/
namespace Sys2Proof.Machine

open Sys2Proof

/-! ### Serving a request -/

/-- A request command outside RESET ends with its response in the station's lane (R144). Each request row of `exec` is
`requested` of its request's function by definition. -/
theorem requested_eq {st : Station} {f : State → State × List Byte} {s t : State} {bytes : List Byte}
    (held : s.resetHeld = false) (h : f s = (t, bytes)) :
    requested st f s = .next (t.modStation st (StationState.answering bytes)) := by
  rw [requested, unlessHeld, held, if_neg Bool.false_ne_true, h]
  rfl

/-- In RUN the grant's holder passes checks 3 to 5 (R150). -/
theorem served_of_writes {st : Station} {s : State} (h : s.writes st) (needsGrant storeBusy : Bool)
    (f : State → State × List Byte) : served st needsGrant storeBusy f s = f s := by
  obtain ⟨_, run, holder⟩ := h
  simp [served, gate, run, holder]

/-- A request that no store bars is served to the grant's holder in STORING too (R150, check 5). -/
theorem served_of_edits {st : Station} {s : State} (h : s.edits st) (needsGrant : Bool)
    (f : State → State × List Byte) : served st needsGrant false f s = f s := by
  obtain ⟨⟨_, notLoading⟩, holder⟩ := h
  simp [served, gate, notLoading, holder]

theorem indexed_of_good {bad : Bool} (h : bad = false) (f : State → State × List Byte) (s : State) :
    indexed bad f s = f s := by rw [indexed, h, if_neg Bool.false_ne_true]

/-- A write for the grant's holder in RUN whose index fields name an object (R150). -/
theorem requested_write {st : Station} {bad : Bool} {f : State → State × List Byte} {s t : State} {bytes : List Byte}
    (h : s.writes st) (good : bad = false) (does : f s = (t, bytes)) :
    requested st (served st true true (indexed bad f)) s =
      .next (t.modStation st (StationState.answering bytes)) :=
  requested_eq h.1 (by rw [served_of_writes h, indexed_of_good good, does])

/-- The status of a write (R150, R151). -/
theorem written_eq {clamped : Bool} {c : Prop} [Decidable c] (h : clamped = true ↔ c) (s : State) :
    written clamped s = (s, if c then [2] else [0]) := by
  cases clamped with
  | true =>
    rw [if_pos (h.1 rfl)]
    rfl
  | false =>
    rw [if_neg fun changed => Bool.false_ne_true (h.2 changed)]
    rfl

/-! ### Index fields -/

theorem toNat_index {n : Nat} (hn : n ≤ 256) (k : Fin n) : (BitVec.ofNat 8 k.val).toNat = k.val := by
  rw [BitVec.toNat_ofNat]
  omega

/-- The number of an object names it (R150, check 6). -/
theorem indexOf_ofNat {top : Nat} (h : top + 1 ≤ 256) (k : Fin (top + 1)) : indexOf top (BitVec.ofNat 8 k.val) = k := by
  have least : min top (BitVec.ofNat 8 k.val).toNat = k.val := by
    rw [toNat_index h k]
    omega
  exact Fin.ext least

theorem overIndex_ofNat {top : Nat} (h : top + 1 ≤ 256) (k : Fin (top + 1)) :
    overIndex top (BitVec.ofNat 8 k.val) = false := by
  rw [overIndex, toNat_index h k]
  exact decide_eq_false (by omega)

/-! ### Clamps (R151) -/

theorem clampNat_zero (hi x : Nat) : clampNat 0 hi x = min hi x := Nat.zero_max _

theorem changedNat_iff {hi x : Nat} : changedNat 0 hi x = true ↔ hi < x := by
  rw [changedNat, clampNat_zero, decide_eq_true_iff]
  omega

theorem changedInt_iff {lo hi x : Int} (h : lo ≤ hi) : changedInt lo hi x = true ↔ x < lo ∨ hi < x := by
  rw [changedInt, clampInt, decide_eq_true_iff]
  omega

theorem overOne_iff {b : Byte} : overOne b = true ↔ 1 < b.toNat := decide_eq_true_iff

theorem yes_eq (b : Byte) : yes b = decide (b ≠ 0) := by rw [Bool.eq_iff_iff, yes, bne_iff_ne, decide_eq_true_iff]

/-! ### Objects as stored, and whether a field was clamped -/

theorem storedEntry_eq {f : RawEntry} {k : Fin 4} (h : f.chart = BitVec.ofNat 8 k.val) :
    f.stored = { valid := decide (f.valid ≠ 0), chart := k, care := f.care, pattern := f.pattern &&& f.care
                 pitch := min 127 f.pitch.toNat } := by
  rw [RawEntry.stored, h, indexOf_ofNat (by decide), yes_eq, clampNat_zero]

theorem entryClamped_iff {f : RawEntry} : f.clamped = true ↔ 1 < f.valid.toNat ∨ 127 < f.pitch.toNat := by
  rw [RawEntry.clamped, Bool.or_eq_true, overOne_iff, changedNat_iff]

theorem chartOf_eq (fallback base : Byte) :
    chartOf fallback base = { fallback := if fallback = 0 then .hold else .base, base := min 127 base.toNat } := by
  rw [chartOf, fallbackOf, clampNat_zero]

theorem chartClamped_iff {fallback base : Byte} :
    chartClamped fallback base = true ↔ 1 < fallback.toNat ∨ 127 < base.toNat := by
  rw [chartClamped, Bool.or_eq_true, overOne_iff, changedNat_iff]

theorem storedLayer_eq {f : RawLayer} {k : Fin 4} (h : f.curve = BitVec.ofNat 8 k.val) :
    f.stored =
      { present := decide (f.present ≠ 0), interval := max (-36) (min 36 f.interval.toInt)
        scale := min 256 f.scale.toNat, curve := k, program := f.program, low := min 127 f.low.toNat
        high := min 127 f.high.toNat } := by
  rw [RawLayer.stored, h, indexOf_ofNat (by decide), yes_eq, clampInt, clampNat_zero, clampNat_zero, clampNat_zero]

theorem layerClamped_iff {f : RawLayer} :
    f.clamped = true ↔ 1 < f.present.toNat ∨ f.interval.toInt < -36 ∨ 36 < f.interval.toInt ∨ 256 < f.scale.toNat ∨
      127 < f.low.toNat ∨ 127 < f.high.toNat := by
  simp only [RawLayer.clamped, Bool.or_eq_true, overOne_iff, changedInt_iff (show (-36 : Int) ≤ 36 by decide),
    changedNat_iff, or_assoc]

theorem curveOf_eq (c : RawCurve) : curveOf c = Tab.ofFn fun i => min 1023 (c.get i).toNat :=
  Tab.ext_get fun i => by rw [curveOf, Tab.get_map, Tab.get_ofFn, clampNat_zero]

theorem curveClamped_iff {c : RawCurve} : curveClamped c = true ↔ ∃ i, 1023 < (c.get i).toNat := by
  simp only [curveClamped, List.any_eq_true, changedNat_iff, Tab.mem_list]
  exact ⟨fun ⟨_, ⟨i, here⟩, high⟩ => ⟨i, here ▸ high⟩, fun ⟨i, high⟩ => ⟨_, ⟨i, rfl⟩, high⟩⟩

/-! ### The obligation -/

/-- Settles O45: each write by `requested_write` and what its object is stored as. -/
theorem writesReplaceWholeObjects : Obligations.WritesReplaceWholeObjects := by
  refine fun st s => ⟨fun h i f k chart => ?_, fun h i => ?_, fun h k fallback base => ?_,
    fun h y L f k curve => ?_, fun h k c => ?_, fun h => ?_⟩
  · refine requested_write h ?_ ?_
    · rw [overIndex_ofNat (by decide), chart, overIndex_ofNat (by decide), Bool.or_false]
    · rw [written_eq entryClamped_iff, indexOf_ofNat (by decide), storedEntry_eq chart]
      rfl
  · refine requested_write h (overIndex_ofNat (by decide) i) ?_
    rw [indexOf_ofNat (by decide)]
    rfl
  · refine requested_write h (overIndex_ofNat (by decide) k) ?_
    rw [written_eq chartClamped_iff, indexOf_ofNat (by decide), chartOf_eq]
  · refine requested_write h ?_ ?_
    · rw [overIndex_ofNat (by decide), overIndex_ofNat (by decide), curve, overIndex_ofNat (by decide), Bool.or_false,
        Bool.or_false]
    · rw [written_eq layerClamped_iff, indexOf_ofNat (by decide), indexOf_ofNat (by decide), storedLayer_eq curve]
  · refine requested_write h (overIndex_ofNat (by decide) k) ?_
    rw [written_eq curveClamped_iff, indexOf_ofNat (by decide), curveOf_eq]
  · exact requested_eq h.1.1 (by rw [reqClearCounters, served_of_edits h]; rfl)

end Sys2Proof.Machine
end

section
/-!
PROOF. Where an issued event goes: at a station that receives it, what placing the event in that station's queue alone
does; at any other, nothing. And what a START and a CUT do to the renderer's queue.
-/
namespace Sys2Proof.Machine

open Sys2Proof

/-! ### One station's queue depends on that station and the tables alone -/

theorem station_setWaiting_same (st : Station) (w : List Entry) (s : State) :
    (setWaiting st w s).station st = { s.station st with waiting := w } := State.station_modStation_same s st _

/-- What an append leaves at its station (R111, R125). -/
theorem station_appendEntry_same (st : Station) (e : Entry) (s : State) :
    (appendEntry st e s).station st =
      if st ≠ s.tables.renderer ∧ Config.queueCapacity ≤ (s.station st).waiting.length then
        StationState.withPending .overflow { s.station st with waiting := [.sync] }
      else { s.station st with waiting := (s.station st).waiting ++ [e] } := by
  unfold appendEntry
  split
  · rw [overflowQueue, setPending, State.station_modStation_same, State.station_modCounters, station_setWaiting_same]
  · exact station_setWaiting_same st _ s

theorem station_appendEntry_congr {st : Station} {s t : State} (e : Entry) (tables : t.tables = s.tables)
    (here : t.station st = s.station st) : (appendEntry st e t).station st = (appendEntry st e s).station st := by
  rw [station_appendEntry_same, station_appendEntry_same, tables, here]

theorem station_setWaiting_congr {st : Station} {s t : State} (w : List Entry) (here : t.station st = s.station st) :
    (setWaiting st w t).station st = (setWaiting st w s).station st := by
  rw [station_setWaiting_same, station_setWaiting_same, here]

theorem station_mergeEntry_congr {st : Station} {s t : State} (v : VoiceNo) (use : Nat) (kind : Entry → Bool)
    (f : Entry → Entry) (e : Entry) (tables : t.tables = s.tables) (here : t.station st = s.station st) :
    (mergeEntry st v use kind f e t).station st = (mergeEntry st v use kind f e s).station st := by
  unfold mergeEntry
  rw [here]
  dsimp only
  split
  · exact station_setWaiting_congr _ here
  · split
    · exact station_setWaiting_congr _ here
    · exact station_appendEntry_congr e tables here

theorem station_placeEvent_congr {st : Station} {s t : State} (v : VoiceNo) (gen : BitVec 4) (p : Player) (use : Nat)
    (ev : Event) (tables : t.tables = s.tables) (here : t.station st = s.station st) :
    (placeEvent st v gen p use ev t).station st = (placeEvent st v gen p use ev s).station st := by
  cases ev with
  | start => exact station_appendEntry_congr _ tables here
  | pitch => exact station_mergeEntry_congr v use _ _ _ tables here
  | level => exact station_mergeEntry_congr v use _ _ _ tables here
  | release => exact station_appendEntry_congr _ tables here
  | cut =>
    unfold placeEvent
    dsimp only
    rw [here]
    split
    · exact station_setWaiting_congr _ here
    · exact station_appendEntry_congr _ tables (station_setWaiting_congr _ here)

/-! ### Issuing an event -/

theorem receives_congr {st : Station} {s t : State} (p : Player) (tables : t.tables = s.tables)
    (code : (t.station st).code = (s.station st).code) : t.receives st p = s.receives st p := by
  rw [State.receives, State.present, tables, code, State.receives, State.present]

/-- One station's part of an issue: the event is placed if the station receives it (R113). -/
def placeIfReceived (st : Station) (x : Voice) (v : VoiceNo) (ev : Event) (s : State) : State :=
  if s.receives st x.player then placeEvent st v x.gen x.player x.use ev s else s

theorem placeIfReceived_queueWork (st : Station) (x : Voice) (v : VoiceNo) (ev : Event) (s : State) :
    QueueWork s (placeIfReceived st x v ev s) := .ite (placeEvent_queueWork st v _ _ _ ev s) (.refl s)

theorem station_placeIfReceived_ne {st y : Station} (h : y ≠ st) (x : Voice) (v : VoiceNo) (ev : Event) (s : State) :
    (placeIfReceived st x v ev s).station y = s.station y := by
  unfold placeIfReceived
  split
  · exact placeEvent_station_ne h v _ _ _ ev s
  · rfl

theorem station_placeIfReceived_congr {st : Station} {s t : State} (x : Voice) (v : VoiceNo) (ev : Event)
    (tables : t.tables = s.tables) (here : t.station st = s.station st) :
    (placeIfReceived st x v ev t).station st = (placeIfReceived st x v ev s).station st := by
  unfold placeIfReceived
  rw [receives_congr x.player tables (by rw [here])]
  split
  · exact station_placeEvent_congr v _ _ _ ev tables here
  · exact here

/-- An issue is its parts at the four stations, one after another. -/
theorem issue_eq_foldl (v : VoiceNo) (ev : Event) (s : State) :
    issue v ev s = (upTo 4).foldl (fun t st => placeIfReceived st (s.voice v) v ev t) s := rfl

/-- Of the parts of an issue, a station sees its own. -/
theorem station_foldl_placeIfReceived (x : Voice) (v : VoiceNo) (ev : Event) (y : Station) {l : List Station}
    (once : l.Nodup) (s : State) :
    (l.foldl (fun t st => placeIfReceived st x v ev t) s).station y =
      if y ∈ l then (placeIfReceived y x v ev s).station y else s.station y := by
  induction l generalizing s with
  | nil => rfl
  | cons st l ih =>
    obtain ⟨notLater, once⟩ := List.nodup_cons.1 once
    rw [List.foldl_cons, ih once]
    by_cases here : y = st
    · subst here
      rw [if_neg notLater, if_pos List.mem_cons_self]
    · have tables := (placeIfReceived_queueWork st x v ev s).pool.tables
      have same := station_placeIfReceived_ne here x v ev s
      rw [station_placeIfReceived_congr x v ev tables same, same]
      simp only [List.mem_cons, here, false_or]

/-- What an issue does at one station (R113). -/
theorem station_issue (v : VoiceNo) (ev : Event) (s : State) (st : Station) :
    (issue v ev s).station st = (placeIfReceived st (s.voice v) v ev s).station st := by
  have once : (upTo 4).Nodup := List.nodup_finRange 4
  rw [issue_eq_foldl, station_foldl_placeIfReceived _ v ev st once, if_pos (mem_upTo st)]

/-! ### The renderer's queue -/

/-- The waiting entries of the renderer station. -/
def State.rendererQueue (s : State) : List Entry := (s.station s.tables.renderer).waiting

theorem PoolWorkOnly.rendererPresent {s t : State} (h : PoolWorkOnly s t) : t.rendererPresent = s.rendererPresent := by
  rw [State.rendererPresent, State.present, h.poolWork.tables, h.2.1, State.rendererPresent, State.present]

/-- A present renderer receives every event (R113). -/
theorem rendererQueue_issue {s : State} (here : s.rendererPresent = true) (v : VoiceNo) (ev : Event) :
    (issue v ev s).rendererQueue =
      ((placeEvent s.tables.renderer v (s.voice v).gen (s.voice v).player (s.voice v).use ev s).station
        s.tables.renderer).waiting := by
  have present : s.present s.tables.renderer = true := here
  have receives : s.receives s.tables.renderer (s.voice v).player = true := by
    rw [State.receives, present, decide_eq_true rfl]
    rfl
  rw [State.rendererQueue, (issue_queueWork v ev s).pool.tables, station_issue, placeIfReceived, receives, if_pos rfl]

/-- The renderer's queue never overflows (R125). -/
theorem waiting_appendEntry_renderer {st : Station} {s : State} (h : st = s.tables.renderer) (e : Entry) :
    ((appendEntry st e s).station st).waiting = (s.station st).waiting ++ [e] := by
  rw [station_appendEntry_same, if_neg fun full => full.1 h]

theorem rendererQueue_issue_start {s : State} (here : s.rendererPresent = true) (v : VoiceNo) (L : LayerNo)
    (pitch : Nat) (bend : Int) (level : Nat) (program : Byte) :
    (issue v (.start L pitch bend level program) s).rendererQueue =
      s.rendererQueue ++ [.voice ⟨v, (s.voice v).gen⟩ (s.voice v).player (s.voice v).use
        (.start L pitch bend level program)] := by
  rw [rendererQueue_issue here]
  exact waiting_appendEntry_renderer rfl _

/-- A CUT removes what waits of the use, and is appended unless it thereby cancels a START (R119). -/
theorem rendererQueue_issue_cut {s : State} (here : s.rendererPresent = true) (v : VoiceNo) :
    (issue v .cut s).rendererQueue =
      removeUse v (s.voice v).use s.rendererQueue ++
        if waits v (s.voice v).use Entry.isStart s.rendererQueue then []
        else [.voice ⟨v, (s.voice v).gen⟩ (s.voice v).player (s.voice v).use .cut] := by
  rw [rendererQueue_issue here, placeEvent]
  rw [← State.rendererQueue]
  split
  · rw [waiting_setWaiting, List.append_nil]
  · rw [waiting_appendEntry_renderer (st := s.tables.renderer) (s := setWaiting _ _ s) rfl, waiting_setWaiting]

end Sys2Proof.Machine
end

section
/-!
PROOF. A request for a voice (O27): what ends a voice's incarnation, what a START leaves, and the three outcomes of an
allocation.
-/
namespace Sys2Proof.Machine

open Sys2Proof

/-! ### Small facts of the parts -/

theorem other_ne_self (p : Player) : p.other ≠ p := by cases p <;> decide

theorem modVoice_congr {v : VoiceNo} {f g : Voice → Voice} {s : State} (h : f (s.voice v) = g (s.voice v)) :
    s.modVoice v f = s.modVoice v g := by
  have same : f (s.voices.get v) = g (s.voices.get v) := h
  rw [State.modVoice, same, State.modVoice]

theorem NoteWork.rendererPresent {s t : State} (h : NoteWork s t) : t.rendererPresent = s.rendererPresent :=
  h.only.rendererPresent

/-- Reading the renderer's queue through the tables of an earlier state. -/
theorem NoteWork.rendererQueue {s t : State} (h : NoteWork s t) :
    (t.station s.tables.renderer).waiting = t.rendererQueue := by
  rw [State.rendererQueue, h.only.poolWork.tables]

/-- A broadcast kind is pending at every present station (R163). -/
theorem broadcast_getLsbD {k : Kind} {st : Station} {s : State} (h : ((broadcast k s).station st).code ≠ .absent) :
    ((broadcast k s).station st).attention.getLsbD k.number = true := by
  have bit : k.bit.getLsbD k.number = true := by cases k <;> rfl
  rw [station_broadcast] at h ⊢
  split at h
  · next absent => exact absurd absent h
  · next present =>
    rw [if_neg present, StationState.withPending, BitVec.getLsbD_or, bit, Bool.or_true]

@[simp] theorem rendererQueue_broadcast (k : Kind) (s : State) : (broadcast k s).rendererQueue = s.rendererQueue := by
  rw [State.rendererQueue, station_broadcast]
  split <;> rfl

/-- The start-order list is replaced. -/
def withStartOrder (l : List VoiceNo) (s : State) : State := { s with startOrder := l }

section WithStartOrder
variable (l : List VoiceNo) (s : State)

@[simp] theorem withStartOrder_players : (withStartOrder l s).players = s.players := rfl

@[simp] theorem withStartOrder_voice (u : VoiceNo) : (withStartOrder l s).voice u = s.voice u := rfl

@[simp] theorem withStartOrder_freeList : (withStartOrder l s).freeList = s.freeList := rfl

@[simp] theorem withStartOrder_startOrder : (withStartOrder l s).startOrder = l := rfl

@[simp] theorem withStartOrder_counters : (withStartOrder l s).counters = s.counters := rfl

@[simp] theorem withStartOrder_rendererQueue : (withStartOrder l s).rendererQueue = s.rendererQueue := rfl

end WithStartOrder

/-- The free list is replaced. -/
def withFreeList (l : List VoiceNo) (s : State) : State := { s with freeList := l }

section WithFreeList
variable (l : List VoiceNo) (s : State)

@[simp] theorem withFreeList_freeList : (withFreeList l s).freeList = l := rfl

@[simp] theorem withFreeList_counters : (withFreeList l s).counters = s.counters := rfl

@[simp] theorem withFreeList_rendererQueue : (withFreeList l s).rendererQueue = s.rendererQueue := rfl

end WithFreeList

@[simp] theorem rendererQueue_modCounters (f : Counters → Counters) (s : State) :
    (s.modCounters f).rendererQueue = s.rendererQueue := rfl

@[simp] theorem rendererQueue_modVoice (v : VoiceNo) (f : Voice → Voice) (s : State) :
    (s.modVoice v f).rendererQueue = s.rendererQueue := rfl

/-! ### The end of an incarnation -/

/-- Voice `v` is taken from the note record that names it, if it is ACTIVE (R78, R95). -/
def unnamed (v : VoiceNo) (s : State) : State :=
  if (s.voice v).state = .active then
    s.modPlayer (s.voice v).player fun q => { q with note := q.note.map (NoteRecord.without v) }
  else s

/-- Then the voice is cut in the queues that receive its events (R95, step 1). -/
def afterCut (v : VoiceNo) (s : State) : State := issue v .cut (unnamed v s)

/-- Then its return timer stops (R95, step 2). -/
def timerStopped (v : VoiceNo) (s : State) : State :=
  (afterCut v s).modVoice v fun y => { y with releaseTaken := false, timer := none }

/-- Then it leaves the start-order list (R95, step 2). -/
theorem endIncarnation_eq (v : VoiceNo) (s : State) :
    endIncarnation v s = withStartOrder ((timerStopped v s).startOrder.erase v) (timerStopped v s) := rfl

section Unnamed
variable (v : VoiceNo) (s : State)

@[simp] theorem unnamed_voice (u : VoiceNo) : (unnamed v s).voice u = s.voice u := by
  unfold unnamed
  split <;> rfl

theorem unnamed_noteWork : NoteWork s (unnamed v s) :=
  .ite (modPlayer_noteWork _ _ s fun _ => rfl) (.refl s)

@[simp] theorem unnamed_startOrder : (unnamed v s).startOrder = s.startOrder := by
  unfold unnamed
  split <;> rfl

@[simp] theorem unnamed_freeList : (unnamed v s).freeList = s.freeList := by
  unfold unnamed
  split <;> rfl

@[simp] theorem unnamed_counters : (unnamed v s).counters = s.counters := by
  unfold unnamed
  split <;> rfl

@[simp] theorem unnamed_rendererQueue : (unnamed v s).rendererQueue = s.rendererQueue := by
  unfold unnamed
  split <;> rfl

/-- No note record comes or goes. -/
theorem unnamed_note (p : Player) :
    ((unnamed v s).player p).note = none ↔ (s.player p).note = none := by
  unfold unnamed
  split
  · rw [State.player_modPlayer]
    split
    · next h => rw [h, Option.map_eq_none_iff]
    · rfl
  · rfl

end Unnamed

/-- An ACTIVE voice's owner names it no more (R78). -/
theorem unnamed_slot {v : VoiceNo} {s : State} (h : (s.voice v).state = .active) (L : LayerNo) :
    ((unnamed v s).slot (s.voice v).player L).map Incarnation.voice ≠ some v := by
  rw [unnamed, if_pos h, State.slot, State.player_modPlayer_same]
  cases (s.player (s.voice v).player).note with
  | none => exact Option.some_ne_none v |>.symm
  | some r =>
    rw [Option.map_some, Option.bind_some, NoteRecord.without, Tab.get_map]
    split
    · exact Option.some_ne_none v |>.symm
    · next other => exact other

section EndIncarnation
variable (v : VoiceNo) (s : State)

theorem endIncarnation_players : (endIncarnation v s).players = (unnamed v s).players := by
  rw [endIncarnation_eq, withStartOrder_players, timerStopped, State.modVoice_players, afterCut, issue_players]

theorem endIncarnation_freeList : (endIncarnation v s).freeList = s.freeList := by
  rw [endIncarnation_eq, withStartOrder_freeList, timerStopped, State.modVoice_freeList, afterCut, issue_freeList,
    unnamed_freeList]

theorem endIncarnation_startOrder :
    (endIncarnation v s).startOrder = s.startOrder.erase v := by
  rw [endIncarnation_eq, withStartOrder_startOrder, timerStopped, State.modVoice_startOrder, afterCut,
    issue_startOrder, unnamed_startOrder]

theorem endIncarnation_counters :
    (endIncarnation v s).counters = { s.counters with overflows := (endIncarnation v s).counters.overflows } := by
  have cut := (issue_queueWork v .cut (unnamed v s)).counters
  rw [unnamed_counters, ← afterCut] at cut
  rw [endIncarnation_eq, withStartOrder_counters, timerStopped, State.modVoice_counters]
  exact cut

/-- The voice keeps its record, but for release-taken and the timer; no other voice is touched (R95). -/
theorem endIncarnation_voice (u : VoiceNo) :
    (endIncarnation v s).voice u =
      if u = v then { s.voice v with releaseTaken := false, timer := none } else s.voice u := by
  have voices : ∀ w, (afterCut v s).voice w = s.voice w := fun w => by
    rw [State.voice, afterCut, issue_voices, ← State.voice, unnamed_voice]
  rw [endIncarnation_eq, withStartOrder_voice, timerStopped, State.voice_modVoice, voices, voices]

theorem endIncarnation_rendererQueue (here : s.rendererPresent = true) :
    (endIncarnation v s).rendererQueue =
      removeUse v (s.voice v).use s.rendererQueue ++
        if waits v (s.voice v).use Entry.isStart s.rendererQueue then []
        else [.voice ⟨v, (s.voice v).gen⟩ (s.voice v).player (s.voice v).use .cut] := by
  have cut := rendererQueue_issue_cut ((unnamed_noteWork v s).rendererPresent.trans here) v
  rw [unnamed_voice, unnamed_rendererQueue] at cut
  rw [endIncarnation_eq, withStartOrder_rendererQueue, timerStopped, rendererQueue_modVoice, afterCut, cut]

end EndIncarnation

/-! ### A START -/

/-- The curve value that a START's level is taken from (R35). -/
def startTarget (p : Player) (c : StartContents) (s : State) : Nat :=
  curveValue (s.tables.curves.get c.curve) (s.player p).n

/-- The START event of these contents (R90). -/
def startEvent (L : LayerNo) (c : StartContents) (target : Nat) : Event :=
  .start L c.pitch c.bend (scaleLevel target c.scale) c.program

/-- Voice `v` takes the record given and joins the tail of the start-order list (R88, R90). -/
def placeVoice (v : VoiceNo) (x : Voice) (s : State) : State :=
  withStartOrder (s.startOrder.erase v ++ [v]) (s.modVoice v fun _ => x)

/-- Then its START is issued (R90). -/
def startAs (L : LayerNo) (c : StartContents) (target : Nat) (v : VoiceNo) (x : Voice) (s : State) : State :=
  issue v (startEvent L c target) (placeVoice v x s)

/-- The player's note record names the incarnation in the layer's slot. -/
def nameIn (p : Player) (L : LayerNo) (i : Incarnation) (s : State) : State :=
  s.modPlayer p fun q => { q with note := q.note.map fun r => { r with slots := r.slots.set L (some i) } }

section StartAs
variable (L : LayerNo) (c : StartContents) (target : Nat) (v : VoiceNo) (x : Voice) (s : State)

theorem placeVoice_voice (u : VoiceNo) : (placeVoice v x s).voice u = if u = v then x else s.voice u := by
  rw [placeVoice, withStartOrder_voice, State.voice_modVoice]

theorem startAs_voice (u : VoiceNo) : (startAs L c target v x s).voice u = if u = v then x else s.voice u := by
  rw [State.voice, startAs, issue_voices, ← State.voice, placeVoice_voice]

theorem startAs_startOrder : (startAs L c target v x s).startOrder = s.startOrder.erase v ++ [v] := by
  rw [startAs, issue_startOrder, placeVoice, withStartOrder_startOrder]

theorem startAs_freeList : (startAs L c target v x s).freeList = s.freeList := by
  rw [startAs, issue_freeList, placeVoice, withStartOrder_freeList, State.modVoice_freeList]

theorem startAs_players : (startAs L c target v x s).players = s.players := by
  rw [startAs, issue_players, placeVoice, withStartOrder_players, State.modVoice_players]

theorem startAs_counters :
    (startAs L c target v x s).counters =
      { s.counters with overflows := (startAs L c target v x s).counters.overflows } := by
  have start := (issue_queueWork v (startEvent L c target) (placeVoice v x s)).counters
  rw [placeVoice, withStartOrder_counters, State.modVoice_counters, ← placeVoice, ← startAs] at start
  exact start

end StartAs

theorem placeVoice_noteWork (v : VoiceNo) (x : Voice) (s : State) : NoteWork s (placeVoice v x s) :=
  (modVoice_noteWork v _ s).trans (startOrder_noteWork _ _)

/-- A present renderer's queue ends in the START (R113). -/
theorem startAs_rendererQueue {s : State} (here : s.rendererPresent = true) (L : LayerNo) (c : StartContents)
    (target : Nat) (v : VoiceNo) (x : Voice) :
    (startAs L c target v x s).rendererQueue =
      s.rendererQueue ++ [.voice ⟨v, x.gen⟩ x.player x.use (startEvent L c target)] := by
  have queue : (placeVoice v x s).rendererQueue = s.rendererQueue := by
    rw [placeVoice, withStartOrder_rendererQueue, rendererQueue_modVoice]
  have record : (placeVoice v x s).voice v = x := by rw [placeVoice_voice, if_pos rfl]
  rw [startAs, startEvent, rendererQueue_issue_start ((placeVoice_noteWork v x s).rendererPresent.trans here), queue,
    record]

section NameIn
variable (p : Player) (L : LayerNo) (i : Incarnation) (s : State)

@[simp] theorem nameIn_voice (u : VoiceNo) : (nameIn p L i s).voice u = s.voice u := rfl

@[simp] theorem nameIn_station (st : Station) : (nameIn p L i s).station st = s.station st := rfl

@[simp] theorem nameIn_freeList : (nameIn p L i s).freeList = s.freeList := rfl

@[simp] theorem nameIn_startOrder : (nameIn p L i s).startOrder = s.startOrder := rfl

@[simp] theorem nameIn_counters : (nameIn p L i s).counters = s.counters := rfl

@[simp] theorem nameIn_rendererQueue : (nameIn p L i s).rendererQueue = s.rendererQueue := rfl

end NameIn

theorem nameIn_slot {p : Player} {s : State} (h : (s.player p).note ≠ none) (L : LayerNo) (i : Incarnation) :
    (nameIn p L i s).slot p L = some i := by
  obtain ⟨r, hr⟩ := Option.ne_none_iff_exists'.1 h
  rw [State.slot, nameIn, State.player_modPlayer_same, hr, Option.map_some, Option.bind_some, Tab.get_set_same]

theorem nameIn_slot_other {p q : Player} (h : q ≠ p) (L K : LayerNo) (i : Incarnation) (s : State) :
    (nameIn p L i s).slot q K = s.slot q K :=
  slot_eq_of_player (by rw [nameIn, State.player_modPlayer, if_neg h]) K

/-! ### A START from a state made ready for it -/

/-- `b` is `s` made ready for a START of voice `v` for player `p`: what the START reads stands as in `s`, and so does
every other voice. -/
structure ReadyToStart (p : Player) (v : VoiceNo) (s b : State) : Prop where
  tables : b.tables = s.tables
  n : (b.player p).n = (s.player p).n
  note : (b.player p).note = none ↔ (s.player p).note = none
  gen : (b.voice v).gen = (s.voice v).gen
  use : (b.voice v).use = (s.voice v).use
  others : ∀ u, u ≠ v → b.voice u = s.voice u
  order : b.startOrder.erase v = s.startOrder.erase v

/-- The head of the free list is taken from it (R91). -/
theorem readyToStart_freeList (p : Player) (v : VoiceNo) (rest : List VoiceNo) (s : State) :
    ReadyToStart p v s (withFreeList rest s) := ⟨rfl, rfl, Iff.rfl, rfl, rfl, fun _ _ => rfl, rfl⟩

/-- A victim's incarnation has ended (R95). -/
theorem readyToStart_endIncarnation (p : Player) (v : VoiceNo) {s : State} (once : s.startOrder.Nodup) :
    ReadyToStart p v s (endIncarnation v s) where
  tables := (endIncarnation_noteWork v s).only.poolWork.tables
  n := by rw [(endIncarnation_noteWork v s).player p]
  note := by rw [State.player, endIncarnation_players, ← State.player, unnamed_note]
  gen := by rw [endIncarnation_voice, if_pos rfl]
  use := by rw [endIncarnation_voice, if_pos rfl]
  others u h := by rw [endIncarnation_voice, if_neg h]
  order := by
    rw [endIncarnation_startOrder]
    exact List.erase_of_not_mem once.not_mem_erase

/-- The record that a START of voice `v` writes (R35, R89, R90). -/
def startRecord (p : Player) (L : LayerNo) (c : StartContents) (v : VoiceNo) (s : State) : Voice :=
  (s.voice v).started p L c (startTarget p c s)

/-- A START reads of the readied state what stood before. -/
theorem startVoice_of_ready {p : Player} {v : VoiceNo} {s b : State} (h : ReadyToStart p v s b) (L : LayerNo)
    (c : StartContents) : startVoice p L c v b = startAs L c (startTarget p c s) v (startRecord p L c v s) b := by
  have target : startTarget p c b = startTarget p c s := by rw [startTarget, h.tables, h.n, startTarget]
  have record : (b.voice v).started p L c (startTarget p c b) = startRecord p L c v s := by
    rw [target, Voice.started, h.gen, h.use]
    rfl
  have placed : b.modVoice v (fun x => x.started p L c (startTarget p c b)) =
      b.modVoice v fun _ => startRecord p L c v s := modVoice_congr record
  have start : startVoice p L c v b = issue v (startEvent L c (startTarget p c b))
      (withStartOrder (b.startOrder.erase v ++ [v]) (b.modVoice v fun x => x.started p L c (startTarget p c b))) := rfl
  rw [start, placed, target, startAs, placeVoice]

/-- The incarnation that a START of voice `v` begins (R89). -/
def nextIncarnation (v : VoiceNo) (s : State) : Incarnation := ⟨v, (s.voice v).gen + 1⟩

/-- The slot takes the incarnation just started (R90, step 6). -/
theorem fillSlot_of_started {p : Player} {L : LayerNo} {c : StartContents} {v : VoiceNo} {s u : State}
    (h : u.voice v = startRecord p L c v s) : fillSlot p L v u = nameIn p L (nextIncarnation v s) u := by
  have gen : (u.voice v).gen = (s.voice v).gen + 1 := by rw [h]; rfl
  rw [nextIncarnation, ← gen]
  rfl

/-- What an allocation that starts voice `v` leaves of voices, lists and note record. -/
def Starts (p : Player) (L : LayerNo) (c : StartContents) (v : VoiceNo) (s t : State) : Prop :=
  t.voice v = startRecord p L c v s ∧ (∀ u, u ≠ v → t.voice u = s.voice u) ∧
    t.startOrder = s.startOrder.erase v ++ [v] ∧
    ((s.player p).note ≠ none → t.slot p L = some (nextIncarnation v s))

/-- It does so whatever is then broadcast and counted. -/
theorem starts_of_ready {p : Player} {v : VoiceNo} {s b u : State} (h : ReadyToStart p v s b) (L : LayerNo)
    (c : StartContents)
    (voices : u.voices = (startAs L c (startTarget p c s) v (startRecord p L c v s) b).voices)
    (order : u.startOrder = (startAs L c (startTarget p c s) v (startRecord p L c v s) b).startOrder)
    (players : u.players = b.players) : Starts p L c v s (nameIn p L (nextIncarnation v s) u) := by
  have voice : ∀ w, (nameIn p L (nextIncarnation v s) u).voice w =
      if w = v then startRecord p L c v s else b.voice w := fun w => by
    rw [nameIn_voice, State.voice, voices, ← State.voice, startAs_voice]
  refine ⟨by rw [voice, if_pos rfl], fun w hw => by rw [voice, if_neg hw, h.others w hw], ?_, fun noted => ?_⟩
  · rw [nameIn_startOrder, order, startAs_startOrder, h.order]
  · refine nameIn_slot (fun absent => noted (h.note.1 ?_)) L _
    rw [← absent, State.player, State.player, players]

/-! ### Which voice a steal takes -/

/-- A victim is of one of the three categories (R93). -/
theorem victim_cases {s : State} {p : Player} {v : VoiceNo} (h : s.victim p = some v) :
    s.victim1 p v = true ∨ s.victim2 p v = true ∨ ∃ L, s.victim3 p L v = true := by
  simp only [State.victim, Option.or_eq_some_iff] at h
  obtain h | ⟨_, h | ⟨_, h | ⟨_, h | ⟨_, h | ⟨_, h⟩⟩⟩⟩⟩ := h
  · exact .inl (List.find?_some h)
  · exact .inr (.inl (List.find?_some h))
  · exact .inr (.inr ⟨3, List.find?_some h⟩)
  · exact .inr (.inr ⟨2, List.find?_some h⟩)
  · exact .inr (.inr ⟨1, List.find?_some h⟩)
  · exact .inr (.inr ⟨0, List.find?_some h⟩)

/-- An ACTIVE victim is the other player's (R93). -/
theorem victim_player_of_active {s : State} {p : Player} {v : VoiceNo} (h : s.victim p = some v)
    (active : (s.voice v).state = .active) : (s.voice v).player = p.other := by
  obtain h | h | ⟨L, h⟩ := victim_cases h
  · simp [State.victim1, active] at h
  · simp [State.victim2, active] at h
  · simp only [State.victim3, Bool.and_eq_true, decide_eq_true_eq] at h
    obtain ⟨⟨⟨_, owner⟩, _⟩, _⟩ := h
    exact owner

/-! ### The three outcomes of an allocation -/

/-- With free voices the head of the free list is started (R91). -/
theorem allocate_of_free {p : Player} {L : LayerNo} {c : StartContents} {v : VoiceNo} {rest : List VoiceNo} {s : State}
    (h : s.freeList = v :: rest) :
    allocate p L c s = nameIn p L (nextIncarnation v s)
      (startAs L c (startTarget p c s) v (startRecord p L c v s) (withFreeList rest s)) := by
  have started : allocate p L c s = fillSlot p L v (startVoice p L c v (withFreeList rest s)) := by
    rw [allocate, h, withFreeList]
  rw [started, startVoice_of_ready (readyToStart_freeList p v rest s)]
  exact fillSlot_of_started (by rw [startAs_voice, if_pos rfl])

/-- What a steal of voice `v` leaves, but for the slot that names it: the victim's incarnation ended, its START issued,
STEAL counted and broadcast (R95). -/
def stolen (p : Player) (L : LayerNo) (c : StartContents) (v : VoiceNo) (s : State) : State :=
  broadcast .steal
    ((startAs L c (startTarget p c s) v (startRecord p L c v s) (endIncarnation v s)).modCounters
      fun k => { k with steals := countUp k.steals })

/-- Without free voices a victim is stolen (R91, R95). -/
theorem allocate_of_victim {p : Player} {L : LayerNo} {c : StartContents} {v : VoiceNo} {s : State}
    (once : s.startOrder.Nodup) (empty : s.freeList = []) (h : s.victim p = some v) :
    allocate p L c s = nameIn p L (nextIncarnation v s) (stolen p L c v s) := by
  have steals : allocate p L c s = fillSlot p L v (stealVoice p L c v s) := by
    rw [allocate, empty]
    dsimp only
    rw [h]
  rw [steals, stealVoice, startVoice_of_ready (readyToStart_endIncarnation p v once), ← stolen]
  refine fillSlot_of_started (c := c) ?_
  rw [stolen, voice_broadcast, State.voice_modCounters, startAs_voice, if_pos rfl]

/-- Without a victim the layer is dropped (R94). -/
theorem allocate_of_no_victim {p : Player} {L : LayerNo} {c : StartContents} {s : State} (empty : s.freeList = [])
    (h : s.victim p = none) : allocate p L c s = dropLayer s := by
  rw [allocate, empty]
  dsimp only
  rw [h]

section Stolen
variable (p : Player) (L : LayerNo) (c : StartContents) (v : VoiceNo) (s : State)

theorem stolen_voices : (stolen p L c v s).voices =
    (startAs L c (startTarget p c s) v (startRecord p L c v s) (endIncarnation v s)).voices := by
  rw [stolen, broadcast_voices, State.modCounters_voices]

theorem stolen_startOrder : (stolen p L c v s).startOrder =
    (startAs L c (startTarget p c s) v (startRecord p L c v s) (endIncarnation v s)).startOrder := by
  rw [stolen, broadcast_startOrder, State.modCounters_startOrder]

theorem stolen_players : (stolen p L c v s).players = (endIncarnation v s).players := by
  rw [stolen, broadcast_players, State.modCounters_players, startAs_players]

theorem stolen_freeList : (stolen p L c v s).freeList = s.freeList := by
  rw [stolen, broadcast_freeList, State.modCounters_freeList, startAs_freeList, endIncarnation_freeList]

theorem stolen_steals : (stolen p L c v s).counters.steals = countUp s.counters.steals := by
  rw [stolen, broadcast_counters, State.counters_modCounters, startAs_counters, endIncarnation_counters]

/-- STEAL is pending at every present station (R95, R163). -/
theorem stolen_getLsbD {st : Station} (h : ((stolen p L c v s).station st).code ≠ .absent) :
    ((stolen p L c v s).station st).attention.getLsbD 5 = true := by
  unfold stolen at h ⊢
  exact broadcast_getLsbD h

theorem stolen_rendererQueue (here : s.rendererPresent = true) :
    (stolen p L c v s).rendererQueue =
      removeUse v (s.voice v).use s.rendererQueue ++
        (if waits v (s.voice v).use Entry.isStart s.rendererQueue then []
        else [.voice ⟨v, (s.voice v).gen⟩ (s.voice v).player (s.voice v).use .cut]) ++
        [.voice (nextIncarnation v s) p ((s.voice v).use + 1) (startEvent L c (startTarget p c s))] := by
  have present := (endIncarnation_noteWork v s).rendererPresent.trans here
  rw [stolen, rendererQueue_broadcast, rendererQueue_modCounters, startAs_rendererQueue present,
    endIncarnation_rendererQueue v s here]
  rfl

/-- The other player's note record is the one its ACTIVE voice was taken from (R78, R95). -/
theorem stolen_slot_other (K : LayerNo) :
    (nameIn p L (nextIncarnation v s) (stolen p L c v s)).slot p.other K = (unnamed v s).slot p.other K := by
  have players : (stolen p L c v s).player p.other = (unnamed v s).player p.other := by
    rw [State.player, stolen_players, endIncarnation_players, State.player]
  rw [nameIn_slot_other (other_ne_self p), slot_eq_of_player players]

end Stolen

/-- The voice that a free-list head becomes. -/
theorem starts_of_free {p : Player} {L : LayerNo} {c : StartContents} {v : VoiceNo} {rest : List VoiceNo} {s : State}
    (h : s.freeList = v :: rest) : Starts p L c v s (allocate p L c s) := by
  rw [allocate_of_free h]
  exact starts_of_ready (readyToStart_freeList p v rest s) L c rfl rfl (startAs_players ..)

/-- The voice that a victim becomes. -/
theorem starts_of_victim {p : Player} {L : LayerNo} {c : StartContents} {v : VoiceNo} {s : State}
    (once : s.startOrder.Nodup) (empty : s.freeList = []) (h : s.victim p = some v) :
    Starts p L c v s (allocate p L c s) := by
  rw [allocate_of_victim once empty h]
  exact starts_of_ready (readyToStart_endIncarnation p v once) L c (stolen_voices ..) (stolen_startOrder ..)
    (stolen_players ..)

/-! ### The obligation -/

/-- Settles O27: `allocate_of_free`, `allocate_of_victim` and `allocate_of_no_victim` give the state, `starts_of_ready`
the voice started, and the renderer's queue follows its CUT and its START. -/
theorem allocationStartsStealsOrDrops : Obligations.AllocationStartsStealsOrDrops := by
  intro p L c s pool t target started issued named rendererOf entry
  have once : s.startOrder.Nodup := (List.nodup_append.1 pool.1).2.1
  have queue : rendererOf t = t.rendererQueue := (allocate_noteWork p L c s).rendererQueue
  refine ⟨fun v rest free => ?_, fun v empty victim => ?_, fun empty victim => allocate_of_no_victim empty victim⟩
  · have result : t = _ := allocate_of_free free
    have starts : Starts p L c v s t := starts_of_free free
    have record : t.voice v = startRecord p L c v s := starts.1
    refine ⟨starts, ?_, ?_, fun here => ?_, ?_⟩
    · rw [result, nameIn_freeList, startAs_freeList, withFreeList_freeList]
    · rw [result, ← record]
      rfl
    · have present : (withFreeList rest s).rendererPresent = true := here
      rw [queue, result, nameIn_rendererQueue, startAs_rendererQueue present, withFreeList_rendererQueue]
      rfl
    · have counters := startAs_counters L c (startTarget p c s) v (startRecord p L c v s) (withFreeList rest s)
      rw [withFreeList_counters] at counters
      rw [result, nameIn_counters]
      exact counters
  · have result : t = _ := allocate_of_victim once empty victim
    have starts : Starts p L c v s t := starts_of_victim once empty victim
    have record : t.voice v = startRecord p L c v s := starts.1
    refine ⟨starts, ?_, ?_, fun st present => ?_, fun active K => ?_, ?_, fun here => ?_⟩
    · rw [result, nameIn_freeList, stolen_freeList, empty]
    · rw [result, nameIn_counters, stolen_steals]
      rfl
    · rw [result, nameIn_station] at present ⊢
      exact stolen_getLsbD _ _ _ _ _ present
    · have owner := victim_player_of_active victim active
      rw [result, stolen_slot_other, ← owner]
      exact unnamed_slot active K
    · rw [result, stolen, ← record]
      rfl
    · rw [queue, result, nameIn_rendererQueue, stolen_rendererQueue _ _ _ _ _ here]
      rfl

end Sys2Proof.Machine
end
